-- ==== Sys2Proof/Word.lean ====
section
/-! DEFINITION. The widths the spec gives the bridge's values (R1, R126, R178), as plain names for bit vectors.
Counts, positions and lists are not words; they have types of their own in Syntax.lean and Machine/State.lean. -/

namespace Sys2Proof

/-- One byte of a line, a frame or an access. -/
abbrev Byte := BitVec 8

/-- One register of the register window, 16 bits (R178). -/
abbrev Half := BitVec 16

/-- An aperture offset, 0 to 3FFFFFFH (R126). -/
abbrev Offset := BitVec 26

/-- A remote address, 0 to 0FFFFFFFH (R1). -/
abbrev RemoteAddr := BitVec 28

/-- A line address: remote address bits 27..5 (R1). -/
abbrev LineAddr := BitVec 23

/-- A directory tag: remote address bits 27..13 (R1). -/
abbrev Tag := BitVec 15

/-- A set index: remote address bits 12..5 (R1). -/
abbrev SetIndex := BitVec 8

/-- A write or notice sequence number, modulo 256. -/
abbrev Seq := BitVec 8

/-- An issue number, modulo 4. -/
abbrev Issue := BitVec 2

/-- The 32 bytes of a line, a fill buffer or a WRITE frame, by block offset. -/
abbrev Line := Vector Byte 32

/-- The bytes a write carries, by block offset: a byte where the mask names the offset, none elsewhere (R47). -/
abbrev MaskedLine := Vector (Option Byte) 32

end Sys2Proof
end

