-- ==== Sys2Proof/Syntax.lean ====
section
/-! DEFINITION. The commands of the bridge: one constructor of Instr for each row of spec/opcode_table.json, with the
operands the rules name, and the frames of the rack link (R176). -/

namespace Sys2Proof

/-- The width of an aperture access or of a word read: 1, 2 or 4 bytes (R127, R25). -/
inductive Size where
  | one
  | two
  | four
  deriving DecidableEq, Repr

/-- A memory cycle in the aperture (R127): the cycle's address less the aperture base, and its byte enables. Enable k names
the byte k places above the address (log 13). -/
structure Cycle where
  address : Offset
  enables : BitVec 4
  deriving DecidableEq, Repr

/-- The status field of a response or of a WRITE_ACK (R176). -/
inductive Status where
  | ok
  | duplicate
  | noMemory
  /-- PROTECTED. -/
  | prot
  deriving DecidableEq, Repr

/-- The writable items of a window entry, indices 5AH to 5FH in this order (R114, R178). -/
inductive WindowField where
  | localLow
  | localHigh
  | sizeCode
  | remoteLow
  | remoteHigh
  | attributes
  deriving DecidableEq, Repr

/-- A cycle on the INDEX port, of 8, 16 or 32 bits (R167). The row INDEX_WRITE stands for the port's reads too (log 14). -/
inductive IndexCycle where
  | read8
  | read16
  | read32
  | write8 (value : BitVec 8)
  | write16 (value : BitVec 16)
  | write32 (value : BitVec 32)
  deriving DecidableEq, Repr

/-- A DATA-port access that is not of 16 bits (R168). -/
inductive WrongWidth where
  | read8
  | read32
  | write8 (value : BitVec 8)
  | write32 (value : BitVec 32)
  deriving DecidableEq, Repr

/-- An intact frame from the store, by its kind, with the fields of R176. -/
inductive InFrame where
  | welcome (first : Seq)
  | lineData (tag : Fin 4) (issue : Issue) (status : Status) (data : Line)
  | wordData (tag : Fin 4) (issue : Issue) (status : Status) (data : Vector Byte 4)
  | writeAck (seq : Seq) (status : Status) (total : BitVec 8)
  | syncAck (issue : Issue)
  | notice (seq : Seq) (line : LineAddr)
  | tick (next : Seq)
  | restart
  deriving DecidableEq, Repr

/-- A frame to the store, by its kind, with the fields of R176. -/
inductive OutFrame where
  | join (board : BitVec 4) (revision : BitVec 8)
  | readLine (tag : Fin 4) (issue : Issue) (line : LineAddr)
  | readWord (tag : Fin 4) (issue : Issue) (size : Size) (addr : RemoteAddr)
  | write (seq : Seq) (block : LineAddr) (mask : BitVec 32) (data : Line)
  | sync (issue : Issue) (through : Option Seq)
  deriving DecidableEq, Repr

/-- The commands: one constructor for each row of spec/opcode_table.json, in the table's order. -/
inductive Instr where
  | resetInput (straps : BitVec 4)
  | resetDeassertion
  | apertureRead (cycle : Cycle)
  | apertureWrite (cycle : Cycle) (data : BitVec 32)
  | readResumesFreeEntry
  | writeResumesQueueSpace
  | orderedReadDispatch
  | indexWrite (cycle : IndexCycle)
  | dataWrongWidth (access : WrongWidth)
  | registerWrite (value : Half)
  | windowFieldWrite (field : WindowField) (value : Half)
  | interruptFlagClear (value : Half)
  | interruptEnableWrite (value : Half)
  | join
  | stop
  | softReset
  | sweep
  | sync
  | popRecord
  | invalidateLine
  | enableWindow
  | disableWindow
  | clearCounters
  | clearOverflow
  | unknownCommand (value : Half)
  | welcome (first : Seq)
  | lineData (tag : Fin 4) (issue : Issue) (status : Status) (data : Line)
  | wordData (tag : Fin 4) (issue : Issue) (status : Status) (data : Vector Byte 4)
  | writeAck (seq : Seq) (status : Status) (total : BitVec 8)
  | syncAck (issue : Issue)
  | notice (seq : Seq) (line : LineAddr)
  | tick (next : Seq)
  | restart
  | corruptFrame (bytes : List Byte)
  | frameWhileDown (bytes : List Byte)
  | transmissionEnd
  | responseTimerExpiry (tag : Fin 4)
  | writeTimerExpiry
  | syncTimerExpiry
  | joinTimerExpiry
  | quietTimerExpiry
  | sweepStep
  | dataRead
  deriving DecidableEq, Repr

end Sys2Proof
end

