-- ==== Sys2Proof/Decode.lean ====
section
/-! DEFINITION. No row of spec/opcode_table.json gives bits ("fields": [] in every row, no "fixed"), so no word spells a
command (log 2). -/

namespace Sys2Proof

/-- The command a word spells by the table's bits: none, whatever the word, because no row gives any. -/
def decodeTableWord (_nbits _w : Nat) : Option Instr := none

end Sys2Proof
end

