-- ==== Sys2Proof/Config.lean ====
section
/-! DEFINITION. What one TJ6420 fixes once for all (the identity, R174), and the one value the spec leaves open. -/

namespace Sys2Proof.Config

/-- The vendor code, index 00H (R174, R178). -/
def vendorCode : Half := 0x5E1A#16

/-- The revision, index 01H and the JOIN frame (R174, R93). -/
def revision : Half := 0x0003#16

/-- FREE VALUE (log 11). When one sweep start releases several FILLING ways of one set, R81 sends each to the back of the
set's recency order and does not say which goes first. The rank decides: it is applied to a count of sweep starts, to the set
and to the way, and the way of lower rank goes first. Nothing is known of it. -/
opaque releaseRank : Nat → SetIndex → Fin 4 → Nat

end Sys2Proof.Config
end

