-- ==== Sys2Proof/Machine/State.lean ====
section
/-! DEFINITION. The state of the bridge, block by block as 00_scope.md divides it, and its state after reset.
Each block's fields cite the rule that names them; reset values are those of the reset input. -/

namespace Sys2Proof.Machine

/-- A timer: stopped, or running toward an expiry; the duration in microseconds was fixed when it started (R39, R61, R94,
R107, R148; log 9). -/
inductive Timer where
  | stopped
  | running (micros : Nat)
  deriving DecidableEq, Repr

/-- The five attributes of a window (R113). -/
structure Attrs where
  cacheable : Bool
  prefetch : Bool
  posted : Bool
  readOnly : Bool
  ordered : Bool
  deriving DecidableEq, Repr

/-- What a pending access waits on (R126). -/
inductive Wait where
  | entryDone
  | freeEntry
  | queueSpace
  | entryRemoved
  | queueEmpty
  deriving DecidableEq, Repr

/-- READ, or WRITE with the written bytes, the lowest offset least significant (R126, R127). -/
inductive Direction where
  | read
  | write (data : BitVec 32)
  deriving DecidableEq, Repr

/-- The pending-access record (R126). It is made after the match, so the match's fields are always present. -/
structure Access where
  direction : Direction
  offset : Offset
  size : Size
  window : Fin 8
  remote : RemoteAddr
  attrs : Attrs
  /-- The window's remote base plus its size. -/
  limit : Nat
  wait : Wait
  deriving DecidableEq, Repr

/-- The end of a cycle on the local bus: the data of a read, and whether it ended with bus error (R131). -/
inductive BusEnd where
  | read (data : BitVec 32) (busError : Bool)
  | write (busError : Bool)
  deriving DecidableEq, Repr

/-- The bus interface (R126, R167, R170) and the end it gave last (log 12). -/
structure BusInterface where
  access : Option Access
  lastEnd : Option BusEnd
  index : BitVec 7
  autoIncrement : Bool
  berrEn : Bool
  deriving DecidableEq, Repr

/-- A window entry (R113). The bases are held as the bits that a write keeps: 25..12 and 27..12 (R114). -/
structure Window where
  enabled : Bool
  localPage : BitVec 14
  sizeCode : BitVec 4
  remotePage : BitVec 16
  attrs : Attrs
  deriving DecidableEq, Repr

/-- A way of the directory: what each state carries (R2). -/
inductive Way where
  | invalid
  | filling (tag : Tag) (ref : Fin 4)
  | valid (tag : Tag) (data : Line)
  deriving DecidableEq, Repr

/-- A set: its four ways and its recency order, most recently used first (R1, R3). -/
structure CacheSet where
  ways : Vector Way 4
  order : List (Fin 4)
  deriving DecidableEq, Repr

/-- The line directory: 256 sets and the HOLD setting (R1, R20). -/
structure Directory where
  sets : Vector CacheSet 256
  hold : Bool
  deriving DecidableEq, Repr

/-- The purpose of a LINE entry (R25). -/
inductive Purpose where
  | demand
  | prefetch
  deriving DecidableEq, Repr

/-- A target way: its set and its number (R25). -/
structure Target where
  set : SetIndex
  way : Fin 4
  deriving DecidableEq, Repr

/-- What an OUTSTANDING entry asks for: a LINE, with its purpose and its target way if it has one, or a WORD (R25). -/
inductive Request where
  | line (addr : LineAddr) (purpose : Purpose) (target : Option Target)
  | word (addr : RemoteAddr) (size : Size)
  deriving DecidableEq, Repr

/-- The send phase of an OUTSTANDING entry (R25). -/
inductive Phase where
  | awaiting
  | inFlight
  deriving DecidableEq, Repr

/-- The fields an entry holds only while it is OUTSTANDING (R25). -/
structure ReadWork where
  request : Request
  window : Fin 8
  phase : Phase
  waiter : Bool
  deriving DecidableEq, Repr

/-- A read entry: FREE when it has no work, OUTSTANDING when it has; the other fields are always present (R25). -/
structure ReadEntry where
  work : Option ReadWork
  issue : Issue
  retries : BitVec 3
  timer : Timer
  fill : Line
  deriving DecidableEq, Repr

/-- The read table: four entries and the send list, oldest first (R25, R27). -/
structure ReadTable where
  entries : Vector ReadEntry 4
  sendList : List (Fin 4)
  deriving DecidableEq, Repr

/-- The state of a write entry: QUEUED, or SENT with its sequence number and replay flag (R47). -/
inductive WriteState where
  | queued
  | sent (seq : Seq) (replay : Bool)
  deriving DecidableEq, Repr

/-- A write entry (R47). `bytes` is the byte mask and the data in one: a byte at each masked offset. -/
structure WriteEntry where
  block : LineAddr
  bytes : MaskedLine
  posted : Bool
  closed : Bool
  window : Fin 8
  state : WriteState
  mark : Bool
  deriving DecidableEq, Repr

/-- The write queue: entries oldest first, and the five items of R49. -/
structure WriteQueue where
  entries : List WriteEntry
  nws : Seq
  rt : BitVec 8
  lastAssigned : Option Seq
  timer : Timer
  replayCount : BitVec 3
  deriving DecidableEq, Repr

/-- The link states (R91). -/
inductive LinkState where
  | down
  | joining
  | up
  | failed
  deriving DecidableEq, Repr

/-- The failure causes (R97). -/
inductive Cause where
  | readTimeout
  | writeTimeout
  | syncTimeout
  | quiet
  | storeRestart
  | joinTimeout
  deriving DecidableEq, Repr

/-- The transmitter: FREE, or SENDING with the frame it has taken (R102). -/
inductive Transmitter where
  | free
  | sending (frame : OutFrame)
  deriving DecidableEq, Repr

/-- The link controller (R91, R102). -/
structure LinkController where
  state : LinkState
  boardNumber : BitVec 4
  autoRejoin : Bool
  joinPending : Bool
  joinTimer : Timer
  joinRetries : BitVec 3
  quietTimer : Timer
  lastCause : Option Cause
  tx : Transmitter
  deriving DecidableEq, Repr

/-- The notice checker (R70). -/
structure NoticeChecker where
  expected : Seq
  deriving DecidableEq, Repr

/-- The sweep unit (R79): IDLE, at position 0 after a reset or 256 after a finished sweep, or RUNNING at a set. -/
inductive Sweep where
  | idle (finished : Bool)
  | running (position : SetIndex)
  deriving DecidableEq, Repr

/-- The sync states (R145). -/
inductive SyncState where
  | idle
  | pending
  | sent
  | done
  | failed
  deriving DecidableEq, Repr

/-- The mark status values (R145). -/
inductive MarkStatus where
  | none
  | waiting
  | sent
  | gone
  deriving DecidableEq, Repr

/-- The sync unit (R145). -/
structure SyncUnit where
  state : SyncState
  mark : MarkStatus
  through : Option Seq
  issue : Issue
  retries : BitVec 3
  timer : Timer
  deriving DecidableEq, Repr

/-- The record kinds (R156). -/
inductive RecordKind where
  | misaligned
  | linkNotUp
  | unmapped
  | readOnlyWrite
  | readRefused
  | writeRefused
  | noticeGap
  | linkFailed
  deriving DecidableEq, Repr

/-- A record's kind with exactly the fields its row of R156 says are present. -/
inductive RecordBody where
  | misaligned (offset : Offset)
  | linkNotUp (offset : Offset)
  | unmapped (offset : Offset)
  | readOnlyWrite (window : Fin 8) (offset : Offset) (remote : RemoteAddr)
  | readRefused (window : Fin 8) (remote : RemoteAddr)
  /-- WRITE_REFUSED, named entry. -/
  | writeRefused (window : Fin 8) (remote : RemoteAddr)
  /-- WRITE_REFUSED, from the refusal total. -/
  | writeRefusedTotal
  | noticeGap (expected : Seq) (received : Seq)
  | linkFailed (cause : Cause) (discarded : BitVec 4)
  deriving DecidableEq, Repr

/-- An error record: its body and its repeat count (R156). -/
structure ErrorRecord where
  body : RecordBody
  count : BitVec 8
  deriving DecidableEq, Repr

/-- The record queue, oldest first, and the overflow counter (R155). -/
structure RecordQueue where
  list : List ErrorRecord
  overflow : BitVec 8
  deriving DecidableEq, Repr

/-- The names of the seven statistics counters (R161). -/
inductive CounterName where
  | hits
  | misses
  | noticesApplied
  | staleFrames
  | corruptFrames
  | readResends
  | writeReplays
  deriving DecidableEq, Repr

/-- The statistics counters (R161). -/
structure Counters where
  hits : BitVec 16
  misses : BitVec 16
  noticesApplied : BitVec 16
  staleFrames : BitVec 16
  corruptFrames : BitVec 16
  readResends : BitVec 16
  writeReplays : BitVec 16
  deriving DecidableEq, Repr

/-- Four flags or four enables (R164, R166). -/
structure FlagSet where
  record : Bool
  link : Bool
  sync : Bool
  sweep : Bool
  deriving DecidableEq, Repr

/-- The interrupt logic (R164, R166). -/
structure InterruptLogic where
  flags : FlagSet
  enables : FlagSet
  deriving DecidableEq, Repr

/-- The command status values (R173). -/
inductive CommandStatus where
  | none
  | done
  | busy
  | wrongState
  | empty
  | badArgument
  | noIdentity
  deriving DecidableEq, Repr

/-- The command unit: the argument registers and the command status (R172, R173). The remote address argument's two
registers are its low and high halves. -/
structure CommandUnit where
  windowArg : Fin 8
  remoteArg : RemoteAddr
  status : CommandStatus
  deriving DecidableEq, Repr

/-- The settings that several blocks use (R170). -/
structure Settings where
  t : BitVec 7
  retryLimit : BitVec 3
  q : BitVec 8
  deriving DecidableEq, Repr

/-- The selection registers (R22, R45, R69, R114). -/
structure Selections where
  inspSet : SetIndex
  inspWay : Fin 4
  readEntry : Fin 4
  queuePos : Fin 8
  window : Fin 8
  deriving DecidableEq, Repr

/-- The inputs that hold a level: RESET_IN and the board-number straps (R92; log 3). -/
structure Pins where
  resetAsserted : Bool
  straps : BitVec 4
  deriving DecidableEq, Repr

/-- The state of the bridge, and the queue of commands that wait for it, first in first out. -/
@[ext]
structure State where
  pins : Pins
  bus : BusInterface
  windows : Vector Window 8
  dir : Directory
  reads : ReadTable
  wq : WriteQueue
  link : LinkController
  notices : NoticeChecker
  sweep : Sweep
  sync : SyncUnit
  records : RecordQueue
  counters : Counters
  irq : InterruptLogic
  cmd : CommandUnit
  settings : Settings
  sel : Selections
  /-- The commands that wait, the next at the front (log 1). -/
  pending : List Instr
  /-- MODEL'S OWN: how many sweeps have started, the argument that makes each use of Config.releaseRank fresh (log 11). -/
  freeCount : Nat
  deriving DecidableEq, Repr

/-- The bridge never stops: each of its events ends in a next state, so there is no fault to name. -/
inductive Fault where
  deriving DecidableEq, Repr

/-- Why a command has no meaning. -/
inductive Refusal where
  /-- Raised by an arm of exec whose command has no meaning yet; none is left. Safe: a refused command proves nothing. -/
  | notModelled (mnemonic : String)
  deriving DecidableEq, Repr

/-- No attribute set (R125). -/
def Attrs.clear : Attrs :=
  { cacheable := false, prefetch := false, posted := false, readOnly := false, ordered := false }

/-- A window entry at the reset input (R125). -/
def Window.reset : Window :=
  { enabled := false, localPage := 0#14, sizeCode := 0#4, remotePage := 0#16, attrs := Attrs.clear }

/-- A set with every way INVALID and the order 0, 1, 2, 3 (R24, R83). -/
def CacheSet.cleared : CacheSet :=
  { ways := Vector.replicate 4 Way.invalid, order := [0, 1, 2, 3] }

/-- A FREE entry at the reset input (R46); the fill buffer's value is the model's (log 4). -/
def ReadEntry.reset : ReadEntry :=
  { work := none, issue := 0#2, retries := 0#3, timer := .stopped, fill := Vector.replicate 32 0#8 }

/-- The write queue at the reset input (R49). -/
def WriteQueue.reset : WriteQueue :=
  { entries := [], nws := 0#8, rt := 0#8, lastAssigned := none, timer := .stopped, replayCount := 0#3 }

/-- The link controller at the reset input, but for the board number, which is the straps' (R91, R92). -/
def LinkController.reset (straps : BitVec 4) : LinkController :=
  { state := .down, boardNumber := straps, autoRejoin := false, joinPending := false, joinTimer := .stopped,
    joinRetries := 0#3, quietTimer := .stopped, lastCause := none, tx := .free }

/-- The sync unit at either reset (R145). -/
def SyncUnit.reset : SyncUnit :=
  { state := .idle, mark := .none, through := none, issue := 0#2, retries := 0#3, timer := .stopped }

/-- The counters at either reset, and after CLEAR_COUNTERS (R161, R163). -/
def Counters.zero : Counters :=
  { hits := 0#16, misses := 0#16, noticesApplied := 0#16, staleFrames := 0#16, corruptFrames := 0#16,
    readResends := 0#16, writeReplays := 0#16 }

/-- No flag set (R164, R166). -/
def FlagSet.clear : FlagSet :=
  { record := false, link := false, sync := false, sweep := false }

/-- The selection registers at either reset (R23, R45, R69, R115). -/
def Selections.reset : Selections :=
  { inspSet := 0#8, inspWay := 0, readEntry := 0, queuePos := 0, window := 0 }

/-- The state the reset input leaves, with the board number latched from the given straps (R91, R24, R46, R49, R70, R79,
R125, R144, R145, R155, R161, R164, R167, R170, R172, R173), no command waiting and the reset input deasserted. -/
def State.resetWith (straps : BitVec 4) : State where
  pins := { resetAsserted := false, straps := straps }
  bus := { access := none, lastEnd := none, index := 0#7, autoIncrement := false, berrEn := true }
  windows := Vector.replicate 8 Window.reset
  dir := { sets := Vector.replicate 256 CacheSet.cleared, hold := false }
  reads := { entries := Vector.replicate 4 ReadEntry.reset, sendList := [] }
  wq := WriteQueue.reset
  link := LinkController.reset straps
  notices := { expected := 0#8 }
  sweep := .idle false
  sync := SyncUnit.reset
  records := { list := [], overflow := 0#8 }
  counters := Counters.zero
  irq := { flags := FlagSet.clear, enables := FlagSet.clear }
  cmd := { windowArg := 0, remoteArg := 0#28, status := .none }
  settings := { t := 15#7, retryLimit := 3#3, q := 8#8 }
  sel := Selections.reset
  pending := []
  freeCount := 0

/-- The machine right after the reset input has been deasserted (R144). The straps' level is no value of the spec: the model
names 0 (log 3). -/
def State.reset : State :=
  State.resetWith 0#4

end Sys2Proof.Machine
end

