-- ==== Sys2Proof/Machine/Vec.lean ====
section
/-! DEFINITION. The few operations over vectors that the machine uses, written by structural recursion on lists so that
Lean's kernel can evaluate them. -/

namespace Sys2Proof.Vec

/-- Apply a function to every element. -/
def map {α β : Type} {n : Nat} (f : α → β) (v : Vector α n) : Vector β n :=
  ⟨(v.toList.map f).toArray, by simp⟩

/-- Apply a function of the position, counted from `i`, to every element of a list. -/
def mapFrom {α β : Type} (f : Nat → α → β) : Nat → List α → List β
  | _, [] => []
  | i, x :: xs => f i x :: mapFrom f (i + 1) xs

theorem length_mapFrom {α β : Type} (f : Nat → α → β) :
    ∀ (l : List α) (i : Nat), (mapFrom f i l).length = l.length
  | [], _ => rfl
  | _ :: xs, i => congrArg (· + 1) (length_mapFrom f xs (i + 1))

/-- Apply a function of the position to every element. -/
def mapIdx {α β : Type} {n : Nat} (f : Nat → α → β) (v : Vector α n) : Vector β n :=
  ⟨(mapFrom f 0 v.toList).toArray, by simp [length_mapFrom]⟩

/-- The vector whose element k is `f k`. -/
def tabulate {α : Type} {n : Nat} (f : Fin n → α) : Vector α n :=
  ⟨(List.ofFn f).toArray, by simp⟩

end Sys2Proof.Vec
end

