-- ==== Sys2Proof/Machine/Operands.lean ====
section
/-! DEFINITION. Operand forms: the parts of a remote address (R1), the memory cycle as it is presented (R127), the lane order
that takes processor values in and hands them back (R127), byte masks and the overlay of written bytes (R35, R47). -/

namespace Sys2Proof.Machine

/-- The line address of a remote address: bits 27..5 (R1). -/
def lineOf (a : RemoteAddr) : LineAddr := a.extractLsb' 5 23

/-- The byte offset of a remote address: bits 4..0 (R1). -/
def byteOffset (a : RemoteAddr) : BitVec 5 := a.extractLsb' 0 5

/-- The set index of a line address: remote address bits 12..5 (R1). -/
def setOf (l : LineAddr) : SetIndex := l.extractLsb' 0 8

/-- The tag of a line address: remote address bits 27..13 (R1). -/
def tagOf (l : LineAddr) : Tag := l.extractLsb' 8 15

/-- The remote address of a line's first byte (R1). -/
def baseOf (l : LineAddr) : RemoteAddr := l ++ 0#5

/-- The bytes of a size (R127). -/
def sizeBytes : Size → Nat
  | .one => 1
  | .two => 2
  | .four => 4

/-- A memory cycle as it is presented (R127): its local offset, and its size if its enables name one run of 1, 2 or 4 bytes. -/
structure Presented where
  offset : Offset
  size : Option Size
  deriving DecidableEq, Repr

/-- The local offset and size of a cycle (R127). A run's offset is that of its first byte; without a run it is that of the
lowest enabled byte, or the cycle's address when no byte is enabled. -/
def presented (c : Cycle) : Presented :=
  match c.enables.toNat with
  | 0 => ⟨c.address, none⟩
  | 1 => ⟨c.address, some .one⟩
  | 2 => ⟨c.address + 1#26, some .one⟩
  | 3 => ⟨c.address, some .two⟩
  | 4 => ⟨c.address + 2#26, some .one⟩
  | 6 => ⟨c.address + 1#26, some .two⟩
  | 8 => ⟨c.address + 3#26, some .one⟩
  | 10 => ⟨c.address + 1#26, none⟩
  | 12 => ⟨c.address + 2#26, some .two⟩
  | 14 => ⟨c.address + 1#26, none⟩
  | 15 => ⟨c.address, some .four⟩
  | _ => ⟨c.address, none⟩

/-- The cycle of an access of a given size at a given offset, with its bytes in the lowest lanes. -/
def cycleAt (offset : Offset) : Size → Cycle
  | .one => ⟨offset, 1#4⟩
  | .two => ⟨offset, 3#4⟩
  | .four => ⟨offset, 15#4⟩

/-- The all-ones value of a read of a given size: FFH in every byte (R131, R137). -/
def onesOf : Size → BitVec 32
  | .one => 0xFF#32
  | .two => 0xFFFF#32
  | .four => 0xFFFFFFFF#32

/-- FFH in every enabled byte of a cycle that names no run, each byte in its own lane (R127). -/
def onesOfLanes (enables : BitVec 4) : BitVec 32 :=
  let lane (k : Nat) : BitVec 8 := if enables.getLsbD k then 0xFF#8 else 0#8
  lane 3 ++ lane 2 ++ lane 1 ++ lane 0

/-- The all-ones value with which a refused read of a cycle ends (R127, R131). -/
def onesOfCycle (c : Cycle) : BitVec 32 :=
  match (presented c).size with
  | some size => onesOf size
  | none => onesOfLanes c.enables

/-- Alignment: the offset is a multiple of the size (R127, R128). -/
def aligned (offset : Offset) (size : Size) : Bool :=
  offset.toNat % sizeBytes size == 0

/-- A value with only the bytes of its size kept: what a write of that size carries (R126). -/
def keepBytes (size : Size) (data : BitVec 32) : BitVec 32 :=
  data &&& onesOf size

/-- The bytes a write lays into its block: byte i of the value at the i-th offset from the write's own (R50, R127). -/
def placeBytes (offset : BitVec 5) (size : Size) (data : BitVec 32) : MaskedLine :=
  Vec.tabulate fun k =>
    let i := (BitVec.ofNat 5 k.val - offset).toNat
    if i < sizeBytes size then some (data.extractLsb' (8 * i) 8) else none

/-- The byte of a line at an offset. -/
def byteAt (buf : Line) (offset : BitVec 5) : Byte :=
  buf[offset.toNat]'(offset.isLt)

/-- The value of 1, 2 or 4 bytes of a line from an offset up, the lowest offset least significant (R127). -/
def valueAt (buf : Line) (offset : BitVec 5) : Size → BitVec 32
  | .one => 0#24 ++ byteAt buf offset
  | .two => 0#16 ++ byteAt buf (offset + 1#5) ++ byteAt buf offset
  | .four =>
    byteAt buf (offset + 3#5) ++ byteAt buf (offset + 2#5) ++ byteAt buf (offset + 1#5) ++ byteAt buf offset

/-- Lay masked bytes over a line: each masked byte replaces the byte at its offset (R15, R35). -/
def overlay (buf : Line) (bytes : MaskedLine) : Line :=
  Vec.tabulate fun k => (bytes[k]).getD buf[k]

/-- Merge newer masked bytes into older ones: a byte already carried takes the new value (R51). -/
def mergeBytes (older newer : MaskedLine) : MaskedLine :=
  Vec.tabulate fun k => (newer[k]).or older[k]

/-- Whether an offset lies in the naturally aligned four-byte group of another (R34). -/
def inGroup (offset : BitVec 5) (k : Nat) : Bool :=
  k / 4 == offset.toNat / 4

/-- Masked bytes restricted to one four-byte group (R35). -/
def maskGroup (offset : BitVec 5) (bytes : MaskedLine) : MaskedLine :=
  Vec.tabulate fun k => if inGroup offset k.val then bytes[k] else none

/-- A four-byte group written into a buffer at its offsets, the rest left as it was (R34). -/
def fillGroup (buffer : Line) (offset : BitVec 5) (data : Vector Byte 4) : Line :=
  Vec.tabulate fun k =>
    if inGroup offset k.val then data[k.val % 4]'(Nat.mod_lt _ (by decide)) else buffer[k]

/-- The byte mask of masked bytes, bit k for offset k (R47, R176). -/
def maskOf (bytes : MaskedLine) : BitVec 32 :=
  BitVec.ofNat 32 (bytes.toList.foldr (fun b m => 2 * m + if b.isSome then 1 else 0) 0)

/-- The 32 data bytes of a WRITE frame: the masked bytes at their offsets, 0 elsewhere (R56). -/
def dataOf (bytes : MaskedLine) : Line :=
  Vec.map (fun b => b.getD 0#8) bytes

end Sys2Proof.Machine
end

