-- ==== Sys2Proof/Machine/Directory.lean ====
section
/-! DEFINITION. The line directory's own operations on a set and on the whole (chapter 1): lookup, victim, claim, install,
invalidate, byte update, release, and what inspection shows of a way. -/

namespace Sys2Proof.Machine

/-! ## A way -/

/-- The tag of a way: present in FILLING and VALID (R2). -/
def Way.tag? : Way → Option Tag
  | .invalid => none
  | .filling tag _ => some tag
  | .valid tag _ => some tag

/-- The fill reference of a way: present in FILLING (R2). -/
def Way.ref? : Way → Option (Fin 4)
  | .invalid => none
  | .filling _ ref => some ref
  | .valid _ _ => none

/-- Whether a way is FILLING. -/
def Way.isFilling : Way → Bool
  | .filling _ _ => true
  | .invalid | .valid _ _ => false

/-- Whether a way is INVALID. -/
def Way.isInvalid : Way → Bool
  | .invalid => true
  | .filling _ _ | .valid _ _ => false

/-! ## A set -/

/-- A way moves to the front of the recency order; the others keep their relative order (R3). -/
def CacheSet.toFront (w : Fin 4) (c : CacheSet) : CacheSet :=
  { c with order := w :: c.order.filter (fun v => v != w) }

/-- A way moves to the back of the recency order; the others keep their relative order (R3). -/
def CacheSet.toBack (w : Fin 4) (c : CacheSet) : CacheSet :=
  { c with order := c.order.filter (fun v => v != w) ++ [w] }

/-- Replace one way. -/
def CacheSet.setWay (w : Fin 4) (x : Way) (c : CacheSet) : CacheSet :=
  { c with ways := c.ways.set w.val x w.isLt }

/-- The way of a set that matches a tag: not INVALID, with that tag (R4). At most one does, by the uniqueness law. -/
def CacheSet.find (tag : Tag) (c : CacheSet) : Option (Fin 4) :=
  (List.finRange 4).find? fun w => (c.ways[w]).tag? == some tag

/-- The victim: the last way in the recency order that is not FILLING (R8). -/
def CacheSet.victim (c : CacheSet) : Option (Fin 4) :=
  c.order.reverse.find? fun w => !(c.ways[w]).isFilling

/-- The position of a way in the recency order, 0 at the front (R3, R22). -/
def CacheSet.recency (w : Fin 4) (c : CacheSet) : Nat :=
  c.order.findIdx (fun v => v == w)

/-- Claim a way for a fill: FILLING with the new tag and the entry's read-table tag, at the front (R9). -/
def CacheSet.claim (w : Fin 4) (tag : Tag) (ref : Fin 4) (c : CacheSet) : CacheSet :=
  (c.setWay w (.filling tag ref)).toFront w

/-- Install a fill buffer into a FILLING way: VALID with its tag kept, at the front (R11). -/
def CacheSet.install (w : Fin 4) (data : Line) (c : CacheSet) : CacheSet :=
  match c.ways[w] with
  | .filling tag _ => (c.setWay w (.valid tag data)).toFront w
  | .invalid | .valid _ _ => c

/-- A way enters INVALID and moves to the back (R12, R13, R14). -/
def CacheSet.drop (w : Fin 4) (c : CacheSet) : CacheSet :=
  (c.setWay w .invalid).toBack w

/-- The written bytes replace those of a VALID way; its state, tag and recency position stay (R15). -/
def CacheSet.update (w : Fin 4) (bytes : MaskedLine) (c : CacheSet) : CacheSet :=
  match c.ways[w] with
  | .valid tag data => c.setWay w (.valid tag (overlay data bytes))
  | .invalid | .filling _ _ => c

/-- Insert a way into a list of ways kept by rising rank. -/
def insertByRank (rank : Fin 4 → Nat) (w : Fin 4) : List (Fin 4) → List (Fin 4)
  | [] => [w]
  | v :: vs => if rank v ≤ rank w then v :: insertByRank rank w vs else w :: v :: vs

/-- The FILLING ways of a set, by rising rank. -/
def CacheSet.fillingByRank (rank : Fin 4 → Nat) (c : CacheSet) : List (Fin 4) :=
  ((List.finRange 4).filter fun w => (c.ways[w]).isFilling).foldr (insertByRank rank) []

/-- Every FILLING way of a set is released, each to the back in its turn (R81). -/
def CacheSet.releaseAll (rank : Fin 4 → Nat) (c : CacheSet) : CacheSet :=
  (c.fillingByRank rank).foldl (fun c w => c.drop w) c

/-! ## The directory -/

/-- One set of the directory. -/
def Directory.get (d : Directory) (i : SetIndex) : CacheSet :=
  d.sets[i.toNat]'(i.isLt)

/-- Replace one set of the directory. -/
def Directory.put (i : SetIndex) (c : CacheSet) (d : Directory) : Directory :=
  { d with sets := d.sets.set i.toNat c i.isLt }

/-- Change one set of the directory. -/
def State.onSet (i : SetIndex) (f : CacheSet → CacheSet) (s : State) : State :=
  { s with dir := s.dir.put i (f (s.dir.get i)) }

/-- The way that matches a line: the lookup of R4, which names exactly one set. -/
def Directory.find (line : LineAddr) (d : Directory) : Option (Fin 4) :=
  (d.get (setOf line)).find (tagOf line)

/-- The way a line's lookup found, and what stands in it. -/
def Directory.findWay (line : LineAddr) (d : Directory) : Option (Fin 4 × Way) :=
  (d.find line).map fun w => (w, (d.get (setOf line)).ways[w])

/-- Every FILLING way of every set is released; the order within a set is the free value's (R81, log 11). -/
def Directory.releaseAll (rank : SetIndex → Fin 4 → Nat) (d : Directory) : Directory :=
  { d with sets := Vec.mapIdx (fun i c => c.releaseAll (rank (BitVec.ofNat 8 i))) d.sets }

/-- Whether a sweep is RUNNING (R79). -/
def Sweep.isRunning : Sweep → Bool
  | .running _ => true
  | .idle _ => false

/-- The sweep position, 0 to 256 (R79). -/
def Sweep.position : Sweep → Nat
  | .running p => p.toNat
  | .idle false => 0
  | .idle true => 256

/-- The outcome of a demand lookup (R4). -/
inductive Lookup where
  | hit (way : Fin 4) (data : Line)
  | inFlight (ref : Fin 4)
  | miss (victim : Option (Fin 4))
  deriving DecidableEq, Repr

/-- The victim offered for a line: none while a sweep runs or HOLD is set (R5, R8, R20). -/
def State.offerVictim (line : LineAddr) (s : State) : Option (Fin 4) :=
  if s.sweep.isRunning || s.dir.hold then none else (s.dir.get (setOf line)).victim

/-- The demand lookup (R4, R5): while a sweep runs, a miss with no victim whatever the set holds. -/
def State.lookup (line : LineAddr) (s : State) : Lookup :=
  if s.sweep.isRunning then .miss none
  else
    match s.dir.findWay line with
    | some (w, .valid _ data) => .hit w data
    | some (_, .filling _ ref) => .inFlight ref
    | some (_, .invalid) | none => .miss (s.offerVictim line)

/-- The prefetch probe: whether a line is VALID or FILLING; it counts nothing and moves no way (R4). -/
def Directory.probe (line : LineAddr) (d : Directory) : Bool :=
  (d.find line).isSome

/-- A VALID way for a line is invalidated; a FILLING way, or no way, is left as it is (R14, R16, R59). -/
def State.invalidateValid (line : LineAddr) (s : State) : State :=
  match s.dir.findWay line with
  | some (w, .valid _ _) => s.onSet (setOf line) (CacheSet.drop w)
  | some (_, .filling _ _) | some (_, .invalid) | none => s

/-- The directory sees a write as the write queue takes it: a byte update through a CACHEABLE window, an invalidation
through another, neither while a sweep runs (R15, R16, R50, R86). -/
def State.directorySeesWrite (cacheable : Bool) (line : LineAddr) (bytes : MaskedLine) (s : State) : State :=
  if s.sweep.isRunning then s
  else if cacheable then
    match s.dir.find line with
    | some w => s.onSet (setOf line) (CacheSet.update w bytes)
    | none => s
  else s.invalidateValid line

end Sys2Proof.Machine
end

