-- ==== Sys2Proof/Machine/Flags.lean ====
section
/-! DEFINITION. The reports of a block: interrupt flags and the interrupt output (R164 to R166), statistics counters (R161,
R162), error records handed to the record queue (R155 to R158), and the end of a local bus cycle (R126, R131). -/

namespace Sys2Proof.Machine

/-! ## Interrupt flags -/

/-- Set the RECORD flag (R157, R164). -/
def State.setRecordFlag (s : State) : State :=
  { s with irq := { s.irq with flags := { s.irq.flags with record := true } } }

/-- Set the LINK flag (R95, R99, R101). -/
def State.setLinkFlag (s : State) : State :=
  { s with irq := { s.irq with flags := { s.irq.flags with link := true } } }

/-- Set the SYNC flag (R149, R152). -/
def State.setSyncFlag (s : State) : State :=
  { s with irq := { s.irq with flags := { s.irq.flags with sync := true } } }

/-- Set the SWEEP flag (R84). -/
def State.setSweepFlag (s : State) : State :=
  { s with irq := { s.irq with flags := { s.irq.flags with sweep := true } } }

/-- Four flags as register bits: RECORD 0, LINK 1, SYNC 2, SWEEP 3 (R178). -/
def flagBits (f : FlagSet) : Half :=
  0#12 ++ BitVec.ofBool f.sweep ++ BitVec.ofBool f.sync ++ BitVec.ofBool f.link ++ BitVec.ofBool f.record

/-- Register bits as four flags (R178). -/
def flagsOfBits (v : Half) : FlagSet :=
  { record := v.getLsbD 0, link := v.getLsbD 1, sync := v.getLsbD 2, sweep := v.getLsbD 3 }

/-- Clear each flag whose bit is written as one (R165). -/
def clearFlags (f : FlagSet) (v : Half) : FlagSet :=
  { record := f.record && !v.getLsbD 0
    link := f.link && !v.getLsbD 1
    sync := f.sync && !v.getLsbD 2
    sweep := f.sweep && !v.getLsbD 3 }

/-- The interrupt output: some flag is set together with its enable (R166). While the reset input is asserted it is
deasserted. -/
def State.interruptOutput (s : State) : Bool :=
  !s.pins.resetAsserted &&
    ((s.irq.flags.record && s.irq.enables.record) || (s.irq.flags.link && s.irq.enables.link) ||
      (s.irq.flags.sync && s.irq.enables.sync) || (s.irq.flags.sweep && s.irq.enables.sweep))

/-! ## Counters -/

/-- One more, stopping at 65535 (R161). -/
def countUp (c : BitVec 16) : BitVec 16 :=
  if c = 0xFFFF#16 then c else c + 1#16

/-- Increment one counter (R161). -/
def Counters.bump (c : Counters) : CounterName → Counters
  | .hits => { c with hits := countUp c.hits }
  | .misses => { c with misses := countUp c.misses }
  | .noticesApplied => { c with noticesApplied := countUp c.noticesApplied }
  | .staleFrames => { c with staleFrames := countUp c.staleFrames }
  | .corruptFrames => { c with corruptFrames := countUp c.corruptFrames }
  | .readResends => { c with readResends := countUp c.readResends }
  | .writeReplays => { c with writeReplays := countUp c.writeReplays }

/-- Increment one counter (R162). -/
def State.bump (n : CounterName) (s : State) : State :=
  { s with counters := s.counters.bump n }

/-- Increment one counter if asked to: a repeated lookup counts nothing (R28, R162). -/
def State.bumpIf (counted : Bool) (n : CounterName) (s : State) : State :=
  if counted then s.bump n else s

/-! ## Error records -/

/-- The kind of a record (R156). -/
def RecordBody.kind : RecordBody → RecordKind
  | .misaligned _ => .misaligned
  | .linkNotUp _ => .linkNotUp
  | .unmapped _ => .unmapped
  | .readOnlyWrite _ _ _ => .readOnlyWrite
  | .readRefused _ _ => .readRefused
  | .writeRefused _ _ => .writeRefused
  | .writeRefusedTotal => .writeRefused
  | .noticeGap _ _ => .noticeGap
  | .linkFailed _ _ => .linkFailed

/-- The window of a record, where its kind carries one (R156). -/
def RecordBody.window? : RecordBody → Option (Fin 8)
  | .readOnlyWrite w _ _ => some w
  | .readRefused w _ => some w
  | .writeRefused w _ => some w
  | .misaligned _ | .linkNotUp _ | .unmapped _ | .writeRefusedTotal | .noticeGap _ _ | .linkFailed _ _ => none

/-- The local offset of a record, where its kind carries one (R156). -/
def RecordBody.offset? : RecordBody → Option Offset
  | .misaligned o => some o
  | .linkNotUp o => some o
  | .unmapped o => some o
  | .readOnlyWrite _ o _ => some o
  | .readRefused _ _ | .writeRefused _ _ | .writeRefusedTotal | .noticeGap _ _ | .linkFailed _ _ => none

/-- The remote address of a record, where its kind carries one (R156). -/
def RecordBody.remote? : RecordBody → Option RemoteAddr
  | .readOnlyWrite _ _ a => some a
  | .readRefused _ a => some a
  | .writeRefused _ a => some a
  | .misaligned _ | .linkNotUp _ | .unmapped _ | .writeRefusedTotal | .noticeGap _ _ | .linkFailed _ _ => none

/-- The sequence pair of a record, expected then received, where its kind carries one (R156). -/
def RecordBody.pair? : RecordBody → Option (Seq × Seq)
  | .noticeGap e r => some (e, r)
  | .misaligned _ | .linkNotUp _ | .unmapped _ | .readOnlyWrite _ _ _ | .readRefused _ _ | .writeRefused _ _
  | .writeRefusedTotal | .linkFailed _ _ => none

/-- The cause and discarded-write count of a record, where its kind carries them (R156). -/
def RecordBody.cause? : RecordBody → Option (Cause × BitVec 4)
  | .linkFailed c d => some (c, d)
  | .misaligned _ | .linkNotUp _ | .unmapped _ | .readOnlyWrite _ _ _ | .readRefused _ _ | .writeRefused _ _
  | .writeRefusedTotal | .noticeGap _ _ => none

/-- The merge test: same kind, same window, same remote address, an absent field equal to an absent one only (R157). -/
def RecordBody.mergesWith (a b : RecordBody) : Bool :=
  a.kind == b.kind && a.window? == b.window? && a.remote? == b.remote?

/-- The sum of two repeat counts, stopping at 255 (R157). -/
def addCount (a b : BitVec 8) : BitVec 8 :=
  if a.toNat + b.toNat ≤ 255 then a + b else 255#8

/-- One more drop, stopping at 255 (R157). -/
def overflowUp (c : BitVec 8) : BitVec 8 :=
  if c = 255#8 then c else c + 1#8

/-- The record an arriving one merges into: the youngest, if they match (R157). -/
def RecordQueue.mergeTarget (q : RecordQueue) (r : ErrorRecord) : Option ErrorRecord :=
  match q.list.getLast? with
  | some y => if y.body.mergesWith r.body then some y else none
  | none => none

/-- A record is handed to the record queue: merged, appended or dropped; a merge or append sets RECORD (R157). -/
def State.handRecord (r : ErrorRecord) (s : State) : State :=
  match s.records.mergeTarget r with
  | some y =>
    { s with records := { s.records with
        list := s.records.list.dropLast ++ [{ y with count := addCount y.count r.count }] } }.setRecordFlag
  | none =>
    if s.records.list.length < 8 then
      { s with records := { s.records with list := s.records.list ++ [r] } }.setRecordFlag
    else
      { s with records := { s.records with overflow := overflowUp s.records.overflow } }

/-! ## The end of a local bus cycle -/

/-- Put an access into the pending-access record, or change the one there (R126). -/
def State.setAccess (a : Access) (s : State) : State :=
  { s with bus := { s.bus with access := some a } }

/-- A read cycle ends with data, and the pending-access record is absent (R126, R131). -/
def State.endRead (data : BitVec 32) (busError : Bool) (s : State) : State :=
  { s with bus := { s.bus with access := none, lastEnd := some (.read data busError) } }

/-- A write cycle ends, and the pending-access record is absent (R126, R131). -/
def State.endWrite (busError : Bool) (s : State) : State :=
  { s with bus := { s.bus with access := none, lastEnd := some (.write busError) } }

/-- Whether the local bus can carry no new cycle: an access is pending (R126), or the reset input is asserted (R127). -/
def State.busHeld (s : State) : Bool :=
  s.bus.access.isSome || s.pins.resetAsserted

/-- A pending access ends at teardown, whatever its wait (R143): a read with all-ones data, and either with bus error if
BERR_EN is set. -/
def State.endAtTeardown (s : State) : State :=
  match s.bus.access with
  | none => s
  | some a =>
    match a.direction with
    | .read => s.endRead (onesOf a.size) s.bus.berrEn
    | .write _ => s.endWrite s.bus.berrEn

end Sys2Proof.Machine
end

