-- ==== Sys2Proof/Machine/Windows.lean ====
section
/-! DEFINITION. The window table's own operations (chapter 6): sizes, the check of ENABLE_WINDOW, matching, translation, and
the fields as registers. -/

namespace Sys2Proof.Machine

/-- The window's size S, 4 KB times 2^code (R113). -/
def Window.size (w : Window) : Nat := 0x1000 * 2 ^ w.sizeCode.toNat

/-- The local base (R113). -/
def Window.localBase (w : Window) : Nat := w.localPage.toNat * 0x1000

/-- The remote base (R113). -/
def Window.remoteBase (w : Window) : Nat := w.remotePage.toNat * 0x1000

/-- The remote limit: the remote base plus S (R113). -/
def Window.remoteLimit (w : Window) : Nat := w.remoteBase + w.size

/-- The three checks of ENABLE_WINDOW (R116). -/
def Window.usable (w : Window) : Bool :=
  w.sizeCode.toNat ≤ 12 &&
    (w.localBase % w.size == 0 && w.localBase + w.size ≤ 0x4000000) &&
    (w.remoteBase % w.size == 0 && w.remoteBase + w.size ≤ 0x10000000)

/-- Whether an entry is enabled and contains an offset (R119). -/
def Window.covers (w : Window) (offset : Offset) : Bool :=
  w.enabled && (w.localBase ≤ offset.toNat && offset.toNat < w.localBase + w.size)

/-- The remote address of an offset: the remote base plus (offset − local base) (R120). -/
def Window.translate (w : Window) (offset : Offset) : RemoteAddr :=
  BitVec.ofNat 28 (w.remoteBase + (offset.toNat - w.localBase))

/-- The matching entry: the lowest-numbered enabled entry that contains the offset (R119). -/
def State.matchWindow (offset : Offset) (s : State) : Option (Fin 8) :=
  (List.finRange 8).find? fun i => (s.windows[i]).covers offset

/-- Replace one window entry. -/
def State.setWindow (i : Fin 8) (w : Window) (s : State) : State :=
  { s with windows := s.windows.set i.val w i.isLt }

/-- Five attributes as register bits (R178). -/
def attrBits (a : Attrs) : Half :=
  0#11 ++ BitVec.ofBool a.ordered ++ BitVec.ofBool a.readOnly ++ BitVec.ofBool a.posted ++ BitVec.ofBool a.prefetch
    ++ BitVec.ofBool a.cacheable

/-- Register bits as five attributes; the other bits are ignored (R114, R178). -/
def attrsOfBits (v : Half) : Attrs :=
  { cacheable := v.getLsbD 0, prefetch := v.getLsbD 1, posted := v.getLsbD 2, readOnly := v.getLsbD 3,
    ordered := v.getLsbD 4 }

/-- A window entry with one field item replaced by what a write of a value keeps (R114, R178). -/
def Window.withField (w : Window) (v : Half) : WindowField → Window
  | .localLow => { w with localPage := w.localPage.extractLsb' 4 10 ++ v.extractLsb' 12 4 }
  | .localHigh => { w with localPage := v.extractLsb' 0 10 ++ w.localPage.extractLsb' 0 4 }
  | .sizeCode => { w with sizeCode := v.extractLsb' 0 4 }
  | .remoteLow => { w with remotePage := w.remotePage.extractLsb' 4 12 ++ v.extractLsb' 12 4 }
  | .remoteHigh => { w with remotePage := v.extractLsb' 0 12 ++ w.remotePage.extractLsb' 0 4 }
  | .attributes => { w with attrs := attrsOfBits v }

/-- What a field item of a window entry reads as (R115, R178). -/
def Window.readField (w : Window) : WindowField → Half
  | .localLow => w.localPage.extractLsb' 0 4 ++ 0#12
  | .localHigh => 0#6 ++ w.localPage.extractLsb' 4 10
  | .sizeCode => 0#12 ++ w.sizeCode
  | .remoteLow => w.remotePage.extractLsb' 0 4 ++ 0#12
  | .remoteHigh => 0#4 ++ w.remotePage.extractLsb' 4 12
  | .attributes => attrBits w.attrs

/-- A field write to the selected entry: taken if the entry is disabled, ignored if it is enabled (R114). -/
def State.writeWindowField (field : WindowField) (v : Half) (s : State) : State :=
  let w := s.windows[s.sel.window]
  if w.enabled then s else s.setWindow s.sel.window (w.withField v field)

end Sys2Proof.Machine
end

