-- ==== Sys2Proof/Machine/Ops.lean ====
section
/-! DEFINITION. The operations that several commands share: timers, read entries, the write queue, the transmitter's choice,
sweep starts, teardown and failure, the paths of a read and of a write, and what ends a wait. -/

namespace Sys2Proof.Machine

/-! ## Timers -/

/-- The response, write, sync and join timers' start: (T + 1) × 32 µs with T as it stands (R39, R61, R94, R148). -/
def State.startTimer (s : State) : Timer :=
  .running ((s.settings.t.toNat + 1) * 32)

/-- The quiet timer's start: Q × 256 µs with Q as it stands, 0 and 1 taken as 2 (R107, R170). -/
def State.startQuiet (s : State) : Timer :=
  .running (max 2 s.settings.q.toNat * 256)

/-- Whether a timer runs. -/
def Timer.isRunning : Timer → Bool
  | .running _ => true
  | .stopped => false

/-! ## Read entries -/

/-- Replace one read entry. -/
def State.setEntry (tag : Fin 4) (e : ReadEntry) (s : State) : State :=
  { s with reads := { s.reads with entries := s.reads.entries.set tag.val e tag.isLt } }

/-- The lowest-numbered FREE entry (R28, R32). -/
def State.freeEntry (s : State) : Option (Fin 4) :=
  (List.finRange 4).find? fun t => (s.reads.entries[t]).work.isNone

/-- How many entries are FREE (R31). -/
def State.freeEntries (s : State) : Nat :=
  ((List.finRange 4).filter fun t => (s.reads.entries[t]).work.isNone).length

/-- Take an entry: OUTSTANDING with its work, issue number and retries 0, timer stopped, the buffer kept, its tag at the tail
of the send list (R27, R28). -/
def State.takeEntry (tag : Fin 4) (work : ReadWork) (s : State) : State :=
  let e := s.reads.entries[tag]
  { s with reads :=
      { entries := s.reads.entries.set tag.val
          { e with work := some work, issue := 0#2, retries := 0#3, timer := .stopped } tag.isLt
        sendList := s.reads.sendList ++ [tag] } }

/-- The target way of a work, if it has one (R25). -/
def ReadWork.target? (w : ReadWork) : Option Target :=
  match w.request with
  | .line _ _ target => target
  | .word _ _ => none

/-- A work without its target way (R13, R42). -/
def ReadWork.release (w : ReadWork) : ReadWork :=
  match w.request with
  | .line addr purpose _ => { w with request := .line addr purpose none }
  | .word _ _ => w

/-- A work joined by a demand: waiter present, purpose DEMAND, the demand's window number (R30). -/
def ReadWork.join (window : Fin 8) (w : ReadWork) : ReadWork :=
  match w.request with
  | .line addr _ target => { w with request := .line addr .demand target, window := window, waiter := true }
  | .word _ _ => { w with window := window, waiter := true }

/-- Change the work of an OUTSTANDING entry; a FREE entry stays as it is. -/
def ReadEntry.onWork (f : ReadWork → ReadWork) (e : ReadEntry) : ReadEntry :=
  { e with work := e.work.map f }

/-- The read entry named by a fill reference loses its target way (R13, R42). -/
def State.releaseEntry (ref : Fin 4) (s : State) : State :=
  s.setEntry ref ((s.reads.entries[ref]).onWork ReadWork.release)

/-- Whether a request is a LINE (R25). -/
def Request.isLine : Request → Bool
  | .line _ _ _ => true
  | .word _ _ => false

/-- The block of a request (R35). -/
def Request.block : Request → LineAddr
  | .line addr _ _ => addr
  | .word addr _ => lineOf addr

/-- The remote address a READ_REFUSED record carries: the block address for LINE, the byte address for WORD (R37). -/
def Request.recordAddr : Request → RemoteAddr
  | .line addr _ _ => baseOf addr
  | .word addr _ => addr

/-- A target way becomes INVALID and moves to the back of its set's order (R12). -/
def State.failFill (target : Option Target) (s : State) : State :=
  match target with
  | some t => s.onSet t.set (CacheSet.drop t.way)
  | none => s

/-- An entry ends: FREE, its timer stopped; issue number, retries and buffer stay (R25, R34, R37, R44). -/
def State.freeUp (tag : Fin 4) (s : State) : State :=
  s.setEntry tag { s.reads.entries[tag] with work := none, timer := .stopped }

/-! ## The write queue's offer and the transmitter -/

/-- Whether an entry is QUEUED. -/
def WriteEntry.isQueued (e : WriteEntry) : Bool :=
  match e.state with
  | .queued => true
  | .sent _ _ => false

/-- Whether an entry is SENT. -/
def WriteEntry.isSent (e : WriteEntry) : Bool := !e.isQueued

/-- Whether an entry is SENT with its replay flag set. -/
def WriteEntry.isReplay (e : WriteEntry) : Bool :=
  match e.state with
  | .sent _ replay => replay
  | .queued => false

/-- The sequence number of a SENT entry (R47). -/
def WriteEntry.seq? (e : WriteEntry) : Option Seq :=
  match e.state with
  | .sent q _ => some q
  | .queued => none

/-- The position of the queue's offer: the oldest SENT entry with its replay flag set, else the oldest QUEUED entry (R56). -/
def writeOffer (entries : List WriteEntry) : Option Nat :=
  match entries.findIdx? WriteEntry.isReplay with
  | some i => some i
  | none => entries.findIdx? WriteEntry.isQueued

/-- The WRITE frame of an entry under a sequence number (R56). -/
def WriteEntry.frame (seq : Seq) (e : WriteEntry) : OutFrame :=
  .write seq e.block (maskOf e.bytes) (dataOf e.bytes)

/-- The frame of a read entry's request (R27). -/
def readFrame (tag : Fin 4) (issue : Issue) : Request → OutFrame
  | .line addr _ _ => .readLine tag issue addr
  | .word addr size => .readWord tag issue size addr

/-- The transmitter takes the JOIN frame: join pending is cleared and the join timer starts (R94, R102). -/
def State.takeJoin (s : State) : State :=
  { s with link := { s.link with
      joinPending := false
      joinTimer := s.startTimer
      tx := .sending (.join s.link.boardNumber (Config.revision.extractLsb' 0 8)) } }

/-- The transmitter takes the read request at the head of the send list: the tag leaves the list, the entry becomes
IN_FLIGHT and its response timer starts (R27, R39). -/
def State.takeRead (tag : Fin 4) (rest : List (Fin 4)) (s : State) : State :=
  let e := s.reads.entries[tag]
  match e.work with
  | some w =>
    { s with
        reads :=
          { entries := s.reads.entries.set tag.val
              { e with work := some { w with phase := .inFlight }, timer := s.startTimer } tag.isLt
            sendList := rest }
        link := { s.link with tx := .sending (readFrame tag e.issue w.request) } }
  | none => s

/-- The sync unit hears of the mark entry's first send (R66, R147). -/
def SyncUnit.markSent (seq : Seq) (u : SyncUnit) : SyncUnit :=
  { u with mark := .sent, through := some seq }

/-- The sync unit hears that the mark entry has left the queue under an ack (R66, R147). -/
def SyncUnit.markGone (u : SyncUnit) : SyncUnit :=
  { u with mark := .gone }

/-- The transmitter takes the write queue's offer (R56): a first send gets NWS, which is incremented, and starts the write
timer if no other entry was SENT; a replay has its flag cleared. The sync unit hears of the mark's first send. -/
def State.takeWrite (i : Nat) (s : State) : State :=
  match s.wq.entries[i]? with
  | some e =>
    match e.state with
    | .queued =>
      let s' := { s with
        wq := { s.wq with
          entries := s.wq.entries.set i { e with state := .sent s.wq.nws false }
          nws := s.wq.nws + 1#8
          lastAssigned := some s.wq.nws
          timer := if s.wq.entries.any WriteEntry.isSent then s.wq.timer else s.startTimer }
        link := { s.link with tx := .sending (e.frame s.wq.nws) } }
      if e.mark then { s' with sync := s'.sync.markSent s.wq.nws } else s'
    | .sent q _ =>
      { s with
        wq := { s.wq with entries := s.wq.entries.set i { e with state := .sent q false } }
        link := { s.link with tx := .sending (e.frame q) } }
  | none => s

/-- The transmitter takes the SYNC frame: the sync state becomes SENT and the sync timer starts (R148). -/
def State.takeSync (s : State) : State :=
  { s with
    sync := { s.sync with state := .sent, timer := s.startTimer }
    link := { s.link with tx := .sending (.sync s.sync.issue s.sync.through) } }

/-- Whether the SYNC frame is ready: PENDING, and the mark status is not WAITING (R147). -/
def SyncUnit.ready (u : SyncUnit) : Bool :=
  u.state == .pending && u.mark != .waiting

/-- The transmitter's choice, made whenever it is FREE and something may have been offered (R102, R103): a JOIN, then the
head of the send list, then the write queue's offer, then the SYNC frame. While the reset input is asserted the outbound line
carries no frame (R104). -/
def State.transmit (s : State) : State :=
  if s.pins.resetAsserted then s
  else
    match s.link.tx with
    | .sending _ => s
    | .free =>
      if s.link.joinPending then s.takeJoin
      else
        match s.reads.sendList with
        | tag :: rest => s.takeRead tag rest
        | [] =>
          match writeOffer s.wq.entries with
          | some i => s.takeWrite i
          | none => if s.sync.ready then s.takeSync else s

/-! ## Sweep starts, teardown and failure -/

/-- A read entry without its target way, as a sweep start leaves it (R42). -/
def ReadEntry.released (e : ReadEntry) : ReadEntry :=
  e.onWork ReadWork.release

/-- A start presented to the sweep unit: absorbed while RUNNING (R82); while IDLE every FILLING way is released, every LINE
entry that had a target way becomes wayless, and the sweep is RUNNING from set 0 (R81, R42). -/
def State.startSweep (s : State) : State :=
  match s.sweep with
  | .running _ => s
  | .idle _ =>
    { s with
      dir := s.dir.releaseAll (Config.releaseRank s.freeCount)
      reads := { s.reads with entries := Vec.map ReadEntry.released s.reads.entries }
      sweep := .running 0#8
      freeCount := s.freeCount + 1 }

/-- Teardown ends one read entry (R44): its target way fails, its timer stops, it becomes FREE. Its waiter's access is ended
by `State.endAtTeardown`. -/
def State.endEntry (s : State) (tag : Fin 4) : State :=
  match (s.reads.entries[tag]).work with
  | some w => (s.failFill w.target?).freeUp tag
  | none => s

/-- Teardown of the sync unit (R152). -/
def State.endSync (s : State) : State :=
  let failed : Bool :=
    match s.sync.state with
    | .pending => true
    | .sent => true
    | .done => s.sync.mark == .sent
    | .idle => false
    | .failed => false
  let s' := { s with sync := { s.sync with timer := .stopped } }
  if failed then { s' with sync := { s'.sync with state := .failed } }.setSyncFlag else s'

/-- The write queue at teardown: every entry leaves, the timer stops, the replay count is 0 (R67). -/
def WriteQueue.emptied (q : WriteQueue) : WriteQueue :=
  { q with entries := [], timer := .stopped, replayCount := 0#3 }

/-- Teardown (R98): the read table's entries in turn, then the send list, the write queue, the sync unit, the pending
access, the sweep start, and the link controller's own timers and pending JOIN. -/
def State.teardown (s : State) : State :=
  let s := (List.finRange 4).foldl State.endEntry s
  let s := { s with reads := { s.reads with sendList := [] }, wq := s.wq.emptied }
  let s := s.endSync.endAtTeardown.startSweep
  { s with link := { s.link with quietTimer := .stopped, joinPending := false, joinTimer := .stopped } }

/-- The link begins a join (R93, R100): JOINING, join retry count 0, a JOIN pending. -/
def State.beginJoin (s : State) : State :=
  { s with link := { s.link with state := .joining, joinRetries := 0#3, joinPending := true } }

/-- The link becomes FAILED with a cause, which becomes the last failure cause (R97, R101). -/
def State.linkFailed (cause : Cause) (s : State) : State :=
  { s with link := { s.link with state := .failed, lastCause := some cause } }

/-- A failure is reported: a LINK_FAILED record with the cause and the count of discarded writes, and the LINK flag
(R99, R101). -/
def State.reportFailure (cause : Cause) (discarded : Nat) (s : State) : State :=
  (s.handRecord ⟨.linkFailed cause (BitVec.ofNat 4 discarded), 1#8⟩).setLinkFlag

/-- A failure cause from UP (R97 to R100): FAILED, teardown, report, and under AUTO_REJOIN the next join at the same
event. -/
def State.fail (cause : Cause) (s : State) : State :=
  let discarded := s.wq.entries.length
  let s' := ((s.linkFailed cause).teardown).reportFailure cause discarded
  (if s'.link.autoRejoin then s'.beginJoin else s').transmit

/-! ## The paths of a read -/

/-- Claim a victim, if one is offered, for a line and an entry (R9). -/
def State.claim (line : LineAddr) (ref : Fin 4) (victim : Option (Fin 4)) (s : State) : State :=
  match victim with
  | some w => s.onSet (setOf line) (CacheSet.claim w (tagOf line) ref)
  | none => s

/-- A LINE entry is taken, with the offered victim as its target way, which it claims, or wayless (R28, R29, R32). -/
def State.takeLine (tag : Fin 4) (line : LineAddr) (purpose : Purpose) (window : Fin 8) (waiter : Bool)
    (victim : Option (Fin 4)) (s : State) : State :=
  (s.takeEntry tag
    { request := .line line purpose (victim.map fun w => ⟨setOf line, w⟩)
      window := window, phase := .awaiting, waiter := waiter }).claim line tag victim

/-- Whether a prefetch of the line after a demand's is taken (R31): PREFETCH, the next line below the remote limit, the probe
finds nothing, no sweep and no HOLD, and at least two entries FREE. -/
def State.wantsPrefetch (a : Access) (s : State) : Bool :=
  a.attrs.prefetch &&
    ((lineOf a.remote).toNat + 1) * 32 < a.limit &&
    !s.dir.probe (lineOf a.remote + 1#23) &&
    !s.sweep.isRunning && !s.dir.hold &&
    2 ≤ s.freeEntries

/-- A prefetch is considered after a demand fill has taken its entry (R31, R32). -/
def State.considerPrefetch (a : Access) (s : State) : State :=
  if s.wantsPrefetch a then
    match s.freeEntry with
    | some tag =>
      s.takeLine tag (lineOf a.remote + 1#23) .prefetch a.window false (s.offerVictim (lineOf a.remote + 1#23))
    | none => s
  else s

/-- A read meets a miss (R135): it takes a demand fill and a prefetch is considered, or it waits on a free entry (R28). -/
def State.readMiss (a : Access) (victim : Option (Fin 4)) (s : State) : State :=
  match s.freeEntry with
  | some tag =>
    ((s.takeLine tag (lineOf a.remote) .demand a.window true victim).considerPrefetch a).setAccess
      { a with wait := .entryDone }
  | none => s.setAccess { a with wait := .freeEntry }

/-- A read dispatched as a word read (R136): it takes a WORD entry, or waits on a free entry. -/
def State.readWord (a : Access) (s : State) : State :=
  match s.freeEntry with
  | some tag =>
    (s.takeEntry tag
      { request := .word a.remote a.size, window := a.window, phase := .awaiting, waiter := true }).setAccess
      { a with wait := .entryDone }
  | none => s.setAccess { a with wait := .freeEntry }

/-- A demand lookup and what follows from it (R4, R133 to R135). `counted` is false for the repeated lookup of a read that
waited on a free entry, which counts neither HITS nor MISSES (R28). -/
def State.readLookup (counted : Bool) (a : Access) (s : State) : State :=
  match s.lookup (lineOf a.remote) with
  | .hit w data =>
    ((s.bumpIf counted .hits).onSet (setOf (lineOf a.remote)) (CacheSet.toFront w)).endRead
      (valueAt data (byteOffset a.remote) a.size) false
  | .inFlight ref =>
    ((s.bumpIf counted .misses).setEntry ref
      ((s.reads.entries[ref]).onWork (ReadWork.join a.window))).setAccess { a with wait := .entryDone }
  | .miss victim => (s.bumpIf counted .misses).readMiss a victim

/-- The dispatch of a read by its window's CACHEABLE attribute (R132). -/
def State.dispatchRead (counted : Bool) (a : Access) (s : State) : State :=
  if a.attrs.cacheable then s.readLookup counted a else s.readWord a

/-- A read waiting on a free entry is offered one that is FREE (R28, R135, R136). Nothing happens if no read so waits or no
entry is FREE. -/
def State.resumeFreeEntry (s : State) : State :=
  match s.bus.access with
  | some a =>
    if a.wait = .freeEntry && s.freeEntry.isSome then s.dispatchRead false a else s
  | none => s

/-- A read waiting on an empty queue is dispatched once the queue is empty (R132, R153). Nothing happens if no read so waits
or the queue holds an entry. -/
def State.resumeQueueEmpty (s : State) : State :=
  match s.bus.access with
  | some a =>
    if a.wait = .queueEmpty && s.wq.entries.isEmpty then s.dispatchRead true a else s
  | none => s

/-! ## The path of a write -/

/-- Whether a presented write is posted: POSTED without ORDERED (R50). -/
def Access.isPosted (a : Access) : Bool :=
  a.attrs.posted && !a.attrs.ordered

/-- The written value of an access; a read writes nothing. -/
def Access.data (a : Access) : BitVec 32 :=
  match a.direction with
  | .write data => data
  | .read => 0#32

/-- The bytes a write lays into its block (R50). -/
def Access.bytes (a : Access) : MaskedLine :=
  placeBytes (byteOffset a.remote) a.size a.data

/-- Whether a presented write merges into an entry, were it the youngest (R51). -/
def WriteEntry.accepts (a : Access) (e : WriteEntry) : Bool :=
  e.block == lineOf a.remote && e.isQueued && e.posted && !e.closed && a.isPosted

/-- The entry made by appending a write (R52): closed when it is non-posted or ORDERED. -/
def Access.entry (a : Access) : WriteEntry :=
  { block := lineOf a.remote, bytes := a.bytes, posted := a.isPosted, closed := !a.isPosted, window := a.window,
    state := .queued, mark := false }

/-- The write queue with a write merged into its youngest entry (R51), or appended (R52), or as it was when the write must
wait for space (R53, none). -/
def WriteQueue.take (a : Access) (q : WriteQueue) : Option WriteQueue :=
  match q.entries.getLast? with
  | some y =>
    if y.accepts a then
      some { q with entries := q.entries.dropLast ++ [{ y with bytes := mergeBytes y.bytes a.bytes }] }
    else if q.entries.length < 8 then some { q with entries := q.entries ++ [a.entry] }
    else none
  | none => some { q with entries := [a.entry] }

/-- A write is presented to the queue (R50 to R53, R138 to R141): taken, with the directory seeing it at the same event, or
left waiting on space. A posted write ends when it is taken; a non-posted one waits for its entry's removal. -/
def State.presentWrite (a : Access) (s : State) : State :=
  match s.wq.take a with
  | some q =>
    let s' := { s with wq := q }.directorySeesWrite a.attrs.cacheable (lineOf a.remote) a.bytes
    if a.isPosted then s'.endWrite false else s'.setAccess { a with wait := .entryRemoved }
  | none => s.setAccess { a with wait := .queueSpace }

/-- A write waiting on queue space is presented again once there is space (R53, R141). Nothing happens if no write so waits
or the queue is full. -/
def State.resumeQueueSpace (s : State) : State :=
  match s.bus.access with
  | some a =>
    if a.wait = .queueSpace && s.wq.entries.length < 8 then s.presentWrite a else s
  | none => s

/-! ## Notices and the command's invalidation -/

/-- The directory acts on a line named by a notice or by INVALIDATE_LINE (R14): a VALID way is invalidated; a FILLING way is
released, and its entry becomes wayless (R13). -/
def State.dropLine (line : LineAddr) (s : State) : State :=
  match s.dir.findWay line with
  | some (w, .valid _ _) => s.onSet (setOf line) (CacheSet.drop w)
  | some (w, .filling _ ref) => (s.onSet (setOf line) (CacheSet.drop w)).releaseEntry ref
  | some (_, .invalid) | none => s

end Sys2Proof.Machine
end

