-- ==== Sys2Proof/Machine/Aperture.lean ====
section
/-! DEFINITION. Aperture access (chapter 7): the checks at presentation, the refusals, and the commands that are memory
cycles and the ends of waits. -/

namespace Sys2Proof.Machine

/-- The checks of R127 in their order: the record body of the first that fails, or the access as the match fills it (R128 to
R130, R120). The wait of an access that passes is set by the path it takes. -/
def State.checkAccess (c : Cycle) (direction : Direction) (s : State) : Except RecordBody Access :=
  let p := presented c
  match p.size with
  | none => .error (.misaligned p.offset)
  | some size =>
    if aligned p.offset size then
      match s.link.state with
      | .up =>
        match s.matchWindow p.offset with
        | none => .error (.unmapped p.offset)
        | some i =>
          let w := s.windows[i]
          if direction != .read && w.attrs.readOnly then
            .error (.readOnlyWrite i p.offset (w.translate p.offset))
          else
            .ok { direction := direction, offset := p.offset, size := size, window := i,
                  remote := w.translate p.offset, attrs := w.attrs, limit := w.remoteLimit, wait := .entryDone }
      | .down => .error (.linkNotUp p.offset)
      | .joining => .error (.linkNotUp p.offset)
      | .failed => .error (.linkNotUp p.offset)
    else .error (.misaligned p.offset)

/-- A read passes the checks (R132): an ORDERED read waits on an empty queue if the queue holds an entry; else it is
dispatched. -/
def State.startRead (a : Access) (s : State) : State :=
  if a.attrs.ordered && !s.wq.entries.isEmpty then s.setAccess { a with wait := .queueEmpty }
  else s.dispatchRead true a

/-- A read cycle presented in the aperture (R127, R131, R132). It is not taken while an access is pending or the reset input
is asserted (R126, R127; log 8). -/
def State.apertureRead (c : Cycle) (s : State) : State :=
  if s.busHeld then s
  else
    match s.checkAccess c .read with
    | .error body => (s.endRead (onesOfCycle c) s.bus.berrEn).handRecord ⟨body, 1#8⟩
    | .ok a => (s.startRead a).transmit

/-- The direction of a write cycle: the bytes it carries, those of its size (R126, R127). -/
def writeDirection (c : Cycle) (data : BitVec 32) : Direction :=
  match (presented c).size with
  | some size => .write (keepBytes size data)
  | none => .write data

/-- A write cycle presented in the aperture (R127, R131, R138). -/
def State.apertureWrite (c : Cycle) (data : BitVec 32) (s : State) : State :=
  if s.busHeld then s
  else
    match s.checkAccess c (writeDirection c data) with
    | .error body => (s.endWrite s.bus.berrEn).handRecord ⟨body, 1#8⟩
    | .ok a => (s.presentWrite a).transmit

/-! ## The commands -/

/-- APERTURE_READ (R127 to R137). -/
def execApertureRead (cycle : Cycle) (s : State) : Host.Outcome State Fault Refusal :=
  .next (s.apertureRead cycle)

/-- APERTURE_WRITE (R127 to R131, R138 to R141). -/
def execApertureWrite (cycle : Cycle) (data : BitVec 32) (s : State) : Host.Outcome State Fault Refusal :=
  .next (s.apertureWrite cycle data)

/-- READ_RESUMES_FREE_ENTRY (R28, R135, R136; log 17). -/
def execReadResumesFreeEntry (s : State) : Host.Outcome State Fault Refusal :=
  .next s.resumeFreeEntry.transmit

/-- WRITE_RESUMES_QUEUE_SPACE (R53, R141; log 17). -/
def execWriteResumesQueueSpace (s : State) : Host.Outcome State Fault Refusal :=
  .next s.resumeQueueSpace.transmit

/-- ORDERED_READ_DISPATCH (R132, R153; log 17). -/
def execOrderedReadDispatch (s : State) : Host.Outcome State Fault Refusal :=
  .next s.resumeQueueEmpty.transmit

end Sys2Proof.Machine
end

