-- ==== Sys2Proof/Machine/Commands.lean ====
section
/-! DEFINITION. The commands of the command register (R172, R173): what each does and the status it leaves, and the DATA cycle
that gives it (R168). -/

namespace Sys2Proof.Machine

/-! ## The DATA cycle -/

/-- The index moves on after a DATA cycle if auto-increment is set; 0 follows 127 (R168). -/
def State.advanceIndex (s : State) : State :=
  if s.bus.autoIncrement then { s with bus := { s.bus with index := s.bus.index + 1#7 } } else s

/-- A DATA write of 16 bits: what it does to its register, then the index moves on and the cycle ends with ready (R168). The
cycle is not taken while an access is pending or the reset input is asserted (R126, R127; log 8). -/
def State.dataWrite (effect : State → State) (s : State) : State :=
  if s.busHeld then s else ((effect s).advanceIndex).endWrite false

/-! ## What each command does -/

/-- Set the command status (R173). -/
def State.setStatus (status : CommandStatus) (s : State) : State :=
  { s with cmd := { s.cmd with status := status } }

/-- JOIN (R93). -/
def State.joinCommand (s : State) : State :=
  match s.link.state with
  | .up => s.setStatus .wrongState
  | .joining => s.setStatus .wrongState
  | .down | .failed =>
    if s.link.boardNumber = 0#4 then s.setStatus .noIdentity else (s.beginJoin.transmit).setStatus .done

/-- STOP (R96, R98): teardown in UP and JOINING without a record, a sweep start in every state, then DOWN. -/
def State.stopCommand (s : State) : State :=
  let s' :=
    match s.link.state with
    | .up => s.teardown
    | .joining => s.teardown
    | .down => s.startSweep
    | .failed => s.startSweep
  { s' with link := { s'.link with state := .down } }.setStatus .done

/-- SOFT_RESET (R175): every item as at the reset input, but for the windows, the settings, the board number and the INDEX
port; the command status is DONE. The last cycle's end, the waiting commands and the count of sweeps stay. -/
def State.softResetCommand (s : State) : State :=
  let r := State.resetWith s.link.boardNumber
  { r with
    pins := s.pins
    bus := { r.bus with lastEnd := s.bus.lastEnd, index := s.bus.index, autoIncrement := s.bus.autoIncrement,
                        berrEn := s.bus.berrEn }
    windows := s.windows
    dir := { r.dir with hold := s.dir.hold }
    link := { r.link with autoRejoin := s.link.autoRejoin }
    irq := { r.irq with enables := s.irq.enables }
    cmd := { r.cmd with status := .done }
    settings := s.settings
    pending := s.pending
    freeCount := s.freeCount }

/-- SWEEP (R89). -/
def State.sweepCommand (s : State) : State :=
  s.startSweep.setStatus .done

/-- The queue with its youngest entry closed and marked, and no other entry marked (R54, R47, R66). -/
def markYoungest : List WriteEntry → List WriteEntry
  | [] => []
  | [e] => [{ e with closed := true, mark := true }]
  | e :: f :: rest => { e with mark := false } :: markYoungest (f :: rest)

/-- The sync unit as a SYNC command's acceptance sets it (R146): mark status and through-sequence from the queue. With a
QUEUED mark R146 names no through-sequence. That an earlier barrier's is not kept and the item is absent until the mark's
first send (R147) is the MODEL'S choice (DESIGN CHOICE, unsafe; log 24). -/
def acceptedSync (q : WriteQueue) (u : SyncUnit) : SyncUnit :=
  let u' := { u with issue := 0#2, retries := 0#3, timer := .stopped, state := .pending }
  match q.entries.getLast? with
  | none => { u' with mark := .none, through := q.lastAssigned }
  | some y =>
    match y.state with
    | .queued => { u' with mark := .waiting, through := none }
    | .sent seq _ => { u' with mark := .sent, through := some seq }

/-- A barrier is accepted (R146): the youngest entry is closed and marked, and the sync unit is PENDING. -/
def State.acceptBarrier (s : State) : State :=
  { s with wq := { s.wq with entries := markYoungest s.wq.entries }, sync := acceptedSync s.wq s.sync }

/-- SYNC (R146). -/
def State.syncCommand (s : State) : State :=
  match s.link.state with
  | .up =>
    match s.sync.state with
    | .pending => s.setStatus .busy
    | .sent => s.setStatus .busy
    | .idle | .done | .failed => s.acceptBarrier.transmit.setStatus .done
  | .down | .joining | .failed => s.setStatus .wrongState

/-- POP_RECORD (R159). -/
def State.popCommand (s : State) : State :=
  match s.records.list with
  | [] => s.setStatus .empty
  | _ :: rest => { s with records := { s.records with list := rest } }.setStatus .done

/-- INVALIDATE_LINE (R21): the line of the remote address argument; bits 4..0 are ignored. -/
def State.invalidateCommand (s : State) : State :=
  (s.dropLine (lineOf s.cmd.remoteArg)).setStatus .done

/-- ENABLE_WINDOW (R116). -/
def State.enableCommand (s : State) : State :=
  let w := s.windows[s.cmd.windowArg]
  if w.usable then (s.setWindow s.cmd.windowArg { w with enabled := true }).setStatus .done
  else s.setStatus .badArgument

/-- DISABLE_WINDOW (R117). -/
def State.disableCommand (s : State) : State :=
  let w := s.windows[s.cmd.windowArg]
  (s.setWindow s.cmd.windowArg { w with enabled := false }).setStatus .done

/-- CLEAR_COUNTERS (R163). -/
def State.clearCountersCommand (s : State) : State :=
  { s with counters := Counters.zero }.setStatus .done

/-- CLEAR_OVERFLOW (R160). -/
def State.clearOverflowCommand (s : State) : State :=
  { s with records := { s.records with overflow := 0#8 } }.setStatus .done

/-- A value written to the command register (R172): the command of that code (R178), or BAD_ARGUMENT. -/
def State.commandRegister (v : Half) (s : State) : State :=
  match v.toNat with
  | 0x01 => s.joinCommand
  | 0x02 => s.stopCommand
  | 0x03 => s.softResetCommand
  | 0x04 => s.sweepCommand
  | 0x05 => s.syncCommand
  | 0x06 => s.popCommand
  | 0x07 => s.invalidateCommand
  | 0x08 => s.enableCommand
  | 0x09 => s.disableCommand
  | 0x0A => s.clearCountersCommand
  | 0x0B => s.clearOverflowCommand
  | _ => s.setStatus .badArgument

/-! ## The commands: DATA writes of their codes to the command register (log 6) -/

/-- JOIN (R93, R168, R173). -/
def execJoin (s : State) : Host.Outcome State Fault Refusal :=
  .next (s.dataWrite State.joinCommand)

/-- STOP (R96, R168, R173). -/
def execStop (s : State) : Host.Outcome State Fault Refusal :=
  .next (s.dataWrite State.stopCommand)

/-- SOFT_RESET (R175, R168, R173): the INDEX value kept is the one after the command's own DATA cycle. -/
def execSoftReset (s : State) : Host.Outcome State Fault Refusal :=
  .next (s.dataWrite State.softResetCommand)

/-- SWEEP (R89, R168, R173). -/
def execSweep (s : State) : Host.Outcome State Fault Refusal :=
  .next (s.dataWrite State.sweepCommand)

/-- SYNC (R146, R168, R173). -/
def execSync (s : State) : Host.Outcome State Fault Refusal :=
  .next (s.dataWrite State.syncCommand)

/-- POP_RECORD (R159, R168, R173). -/
def execPopRecord (s : State) : Host.Outcome State Fault Refusal :=
  .next (s.dataWrite State.popCommand)

/-- INVALIDATE_LINE (R21, R168, R173). -/
def execInvalidateLine (s : State) : Host.Outcome State Fault Refusal :=
  .next (s.dataWrite State.invalidateCommand)

/-- ENABLE_WINDOW (R116, R168, R173). -/
def execEnableWindow (s : State) : Host.Outcome State Fault Refusal :=
  .next (s.dataWrite State.enableCommand)

/-- DISABLE_WINDOW (R117, R168, R173). -/
def execDisableWindow (s : State) : Host.Outcome State Fault Refusal :=
  .next (s.dataWrite State.disableCommand)

/-- CLEAR_COUNTERS (R163, R168, R173). -/
def execClearCounters (s : State) : Host.Outcome State Fault Refusal :=
  .next (s.dataWrite State.clearCountersCommand)

/-- CLEAR_OVERFLOW (R160, R168, R173). -/
def execClearOverflow (s : State) : Host.Outcome State Fault Refusal :=
  .next (s.dataWrite State.clearOverflowCommand)

/-- UNKNOWN_COMMAND (R172, R168, R173): a value that is no command code. -/
def execUnknownCommand (value : Half) (s : State) : Host.Outcome State Fault Refusal :=
  .next (s.dataWrite (State.commandRegister value))

end Sys2Proof.Machine
end

