-- ==== Sys2Proof/Machine/Frames.lean ====
section
/-! DEFINITION. The bytes of rack link frames: the CRC (R177), the outbound layouts, and the reading of an inbound frame with
the receiver's checks of kind, length and CRC (R105, R176). -/

namespace Sys2Proof.Frames

/-- One bit of the CRC computation: polynomial 1021H, most significant bit first (R177). -/
def crcBit (c : BitVec 16) : BitVec 16 :=
  if c.msb then (c <<< 1) ^^^ 0x1021#16 else c <<< 1

/-- One byte entered into the CRC, most significant bit first (R177). -/
def crcByte (c : BitVec 16) (b : Byte) : BitVec 16 :=
  crcBit (crcBit (crcBit (crcBit (crcBit (crcBit (crcBit (crcBit (c ^^^ (b ++ 0#8)))))))))

/-- The CRC of a run of bytes, from FFFFH (R177). -/
def crc (bytes : List Byte) : BitVec 16 :=
  bytes.foldl crcByte 0xFFFF#16

/-- A frame: its kind and fields, then the CRC high byte first (R177). -/
def withCrc (body : List Byte) : List Byte :=
  body ++ [(crc body).extractLsb' 8 8, (crc body).extractLsb' 0 8]

/-- The code of a status (R176). -/
def statusCode : Status → BitVec 8
  | .ok => 0#8
  | .duplicate => 1#8
  | .noMemory => 2#8
  | .prot => 3#8

/-- The status of bits 1..0 of its field (R176); the bits above are ignored. -/
def statusOf (b : Byte) : Status :=
  match (b.extractLsb' 0 2).toNat with
  | 0 => .ok
  | 1 => .duplicate
  | 2 => .noMemory
  | _ => .prot

/-- The size code of READ_WORD (R176). -/
def sizeCode : Size → BitVec 2
  | .one => 0#2
  | .two => 1#2
  | .four => 2#2

/-- Tag in bits 1..0 and issue in bits 3..2 (R176). -/
def tagIssue (tag : Fin 4) (issue : Issue) : Byte :=
  0#4 ++ issue ++ BitVec.ofFin (w := 2) tag

/-- The tag of a first field (R176). -/
def tagOf (b : Byte) : Fin 4 :=
  (b.extractLsb' 0 2).toFin

/-- The issue number of a first field (R176). -/
def issueOf (b : Byte) : Issue :=
  b.extractLsb' 2 2

/-- A line address in three bytes, least significant first (R176). -/
def lineBytes (l : LineAddr) : List Byte :=
  [l.extractLsb' 0 8, l.extractLsb' 8 8, 0#1 ++ l.extractLsb' 16 7]

/-- The line address of three bytes; bit 7 of the third is ignored (R176). -/
def lineOfBytes (b0 b1 b2 : Byte) : LineAddr :=
  b2.extractLsb' 0 7 ++ b1 ++ b0

/-- The bytes of an outbound frame (R176). -/
def outBytes : OutFrame → List Byte
  | .join board rev => withCrc [0x10#8, 0#4 ++ board, rev]
  | .readLine tag issue line => withCrc (0x11#8 :: tagIssue tag issue :: lineBytes line)
  | .readWord tag issue size addr =>
    withCrc [0x12#8, (0#2 ++ sizeCode size ++ issue ++ BitVec.ofFin (w := 2) tag : BitVec 8),
      addr.extractLsb' 0 8, addr.extractLsb' 8 8, addr.extractLsb' 16 8, 0#4 ++ addr.extractLsb' 24 4]
  | .write seq block mask data =>
    withCrc (0x13#8 :: seq :: lineBytes block ++
      [mask.extractLsb' 0 8, mask.extractLsb' 8 8, mask.extractLsb' 16 8, mask.extractLsb' 24 8] ++ data.toList)
  | .sync issue (some u) => withCrc [0x14#8, 0#6 ++ issue, u]
  | .sync issue none => withCrc [0x14#8, 0x20#6 ++ issue, 0#8]

/-- The bytes of an inbound frame as the store sends them (R176). -/
def inBytes : InFrame → List Byte
  | .welcome first => withCrc [0x20#8, first]
  | .lineData tag issue status data => withCrc (0x21#8 :: tagIssue tag issue :: statusCode status :: data.toList)
  | .wordData tag issue status data => withCrc (0x22#8 :: tagIssue tag issue :: statusCode status :: data.toList)
  | .writeAck seq status total => withCrc [0x23#8, seq, statusCode status, total]
  | .syncAck issue => withCrc [0x24#8, 0#6 ++ issue]
  | .notice seq line => withCrc (0x25#8 :: seq :: lineBytes line)
  | .tick next => withCrc [0x26#8, next]
  | .restart => withCrc [0x27#8]

/-- The fields of an inbound frame by kind and length, its CRC bytes last (R176). None for a kind that is not one of the
eight inbound kinds or a length that is not the kind's. -/
def fieldsOf : List Byte → Option InFrame
  | k :: f =>
    match k.toNat, f with
    | 0x20, [a, _, _] => some (.welcome a)
    | 0x21, t :: st :: d =>
      if d.length = 34 then
        some (.lineData (tagOf t) (issueOf t) (statusOf st) (Vec.tabulate fun i => d.getD i 0#8))
      else none
    | 0x22, [t, st, d0, d1, d2, d3, _, _] => some (.wordData (tagOf t) (issueOf t) (statusOf st) #v[d0, d1, d2, d3])
    | 0x23, [a, st, total, _, _] => some (.writeAck a (statusOf st) total)
    | 0x24, [a, _, _] => some (.syncAck (a.extractLsb' 0 2))
    | 0x25, [a, b0, b1, b2, _, _] => some (.notice a (lineOfBytes b0 b1 b2))
    | 0x26, [a, _, _] => some (.tick a)
    | 0x27, [_, _] => some .restart
    | _, _ => none
  | [] => none

/-- The receiver's three checks (R105): an intact frame gives its fields, a corrupt one none. -/
def parse (bytes : List Byte) : Option InFrame :=
  if crc bytes = 0#16 then fieldsOf bytes else none

end Sys2Proof.Frames
end

