-- ==== Sys2Proof/Machine/Receiver.lean ====
section
/-! DEFINITION. The receiver (R105, R106) and the commands that are arriving frames: what each block does with the frame it
is handed (R33 to R37, R57 to R60, R71 to R75, R95, R108, R149). -/

namespace Sys2Proof.Machine

/-! ## Link and sync frames -/

/-- A WELCOME while JOINING brings the link UP (R95). -/
def State.joinUp (first : Seq) (s : State) : State :=
  { s with
    link := { s.link with
      state := .up, joinTimer := .stopped, joinPending := false, quietTimer := s.startQuiet }
    wq := { s.wq with nws := 0#8, rt := 0#8, lastAssigned := none }
    notices := { expected := first } }.setLinkFlag

/-- The sync unit takes a SYNC_ACK: a match while SENT under its own issue number, else stale (R149). -/
def State.takeSyncAck (issue : Issue) (s : State) : State :=
  if s.sync.state = .sent ∧ s.sync.issue = issue then
    { s with sync := { s.sync with state := .done, timer := .stopped } }.setSyncFlag
  else s.bump .staleFrames

/-! ## Responses -/

/-- The work a response frame matches (R33): none, when the frame is stale for the entry. -/
def ReadEntry.answeredBy (issue : Issue) (isLine : Bool) (status : Status) (e : ReadEntry) : Option ReadWork :=
  match e.work with
  | some w =>
    if w.phase = .inFlight ∧ e.issue = issue ∧ w.request.isLine = isLine ∧ status ≠ .duplicate then some w else none
  | none => none

/-- The bytes of a write entry that the overlay lays over a response to a request (R35): for a WORD only those of the
returned group. -/
def Request.overlayBytes (bytes : MaskedLine) : Request → MaskedLine
  | .line _ _ _ => bytes
  | .word addr _ => maskGroup (byteOffset addr) bytes

/-- The overlay: every write entry for the block, oldest to youngest, laid over the buffer (R35). -/
def overlayQueue (request : Request) (entries : List WriteEntry) (buffer : Line) : Line :=
  entries.foldl
    (fun b e => if e.block = request.block then overlay b (request.overlayBytes e.bytes) else b) buffer

/-- The buffer is installed into the entry's target way, if it has one (R11, R34). -/
def State.installFill (target : Option Target) (buffer : Line) (s : State) : State :=
  match target with
  | some t => s.onSet t.set (CacheSet.install t.way buffer)
  | none => s

/-- The waiter receives the bytes at its own access's offset, and its access ends (R34, R36). -/
def State.deliver (waiter : Bool) (buffer : Line) (s : State) : State :=
  if waiter then
    match s.bus.access with
    | some a => s.endRead (valueAt buffer (byteOffset a.remote) a.size) false
    | none => s
  else s

/-- An OK response completes an entry, the steps of R34 in their order; `returned` is the fill buffer with the returned data
written into it. -/
def State.completeRead (tag : Fin 4) (w : ReadWork) (returned : Line) (s : State) : State :=
  let buffer := overlayQueue w.request s.wq.entries returned
  let s := s.setEntry tag { s.reads.entries[tag] with fill := buffer }
  (((s.installFill w.target? buffer).deliver w.waiter buffer).freeUp tag).resumeFreeEntry

/-- A refused response ends an entry as a failed read (R37). -/
def State.refuseRead (tag : Fin 4) (w : ReadWork) (s : State) : State :=
  let s := s.failFill w.target?
  let s :=
    if w.waiter then
      match s.bus.access with
      | some a =>
        (s.endRead (onesOf a.size) s.bus.berrEn).handRecord ⟨.readRefused w.window w.request.recordAddr, 1#8⟩
      | none => s.handRecord ⟨.readRefused w.window w.request.recordAddr, 1#8⟩
    else s
  (s.freeUp tag).resumeFreeEntry

/-- A response meets its entry (R33): stale, or completed by its status. -/
def State.takeResponse (tag : Fin 4) (issue : Issue) (isLine : Bool) (status : Status) (returned : ReadWork → Line)
    (s : State) : State :=
  match (s.reads.entries[tag]).answeredBy issue isLine status with
  | none => s.bump .staleFrames
  | some w =>
    (if status = .ok then s.completeRead tag w (returned w) else s.refuseRead tag w).transmit

/-- The read table takes a LINE_DATA (R33, R34): the 32 bytes fill the buffer. -/
def State.takeLineData (tag : Fin 4) (issue : Issue) (status : Status) (data : Line) (s : State) : State :=
  s.takeResponse tag issue true status (fun _ => data)

/-- The fill buffer with a WORD_DATA's four bytes at the group's offsets, the rest as it was (R34). -/
def ReadEntry.wordBuffer (data : Vector Byte 4) (e : ReadEntry) (w : ReadWork) : Line :=
  match w.request with
  | .word addr _ => fillGroup e.fill (byteOffset addr) data
  | .line _ _ _ => e.fill

/-- The read table takes a WORD_DATA (R33, R34). -/
def State.takeWordData (tag : Fin 4) (issue : Issue) (status : Status) (data : Vector Byte 4) (s : State) : State :=
  s.takeResponse tag issue false status ((s.reads.entries[tag]).wordBuffer data)

/-! ## Acknowledgements -/

/-- Whether a status refuses the operation it answers. -/
def refuses : Status → Bool
  | .noMemory => true
  | .prot => true
  | .ok => false
  | .duplicate => false

/-- How many entries an ack removes from the head, if it names one (R57): with o the sequence of the oldest SENT entry and n
the number of SENT entries, the ack names an entry when (seq − o) modulo 256 is less than n, and removes that many and one. -/
def WriteQueue.named (seq : Seq) (q : WriteQueue) : Option Nat :=
  match q.entries.find? WriteEntry.isSent with
  | some oldest =>
    match oldest.seq? with
    | some o => if (seq - o).toNat < q.entries.countP WriteEntry.isSent then some ((seq - o).toNat + 1) else none
    | none => none
  | none => none

/-- The first k entries leave the queue under an ack (R58): the timer restarts if SENT entries remain, else stops; the replay
count is 0; the sync unit hears if the mark is among them. -/
def State.removeEntries (k : Nat) (s : State) : State :=
  let rest := s.wq.entries.drop k
  let s' := { s with wq := { s.wq with
    entries := rest
    timer := if rest.any WriteEntry.isSent then s.startTimer else .stopped
    replayCount := 0#3 } }
  if (s.wq.entries.take k).any WriteEntry.mark then { s' with sync := s'.sync.markGone } else s'

/-- A refused entry's effects (R59): the WRITE_REFUSED record and the invalidation of a VALID way for its block. -/
def State.refuseWrite (e : WriteEntry) (s : State) : State :=
  (s.handRecord ⟨.writeRefused e.window (baseOf e.block), 1#8⟩).invalidateValid e.block

/-- The end of the non-posted writer whose entry was removed (R65): bus error for a refusal under BERR_EN. -/
def State.endWriter (refused : Bool) (s : State) : State :=
  match s.bus.access with
  | some a => if a.wait = .entryRemoved then s.endWrite (refused && s.bus.berrEn) else s
  | none => s

/-- An ack that names an entry removes it and the older ones (R57 to R59, R65), and then what waited for space or for an
empty queue goes on at the same event (R53, R58). A non-posted entry among the removed is its pending writer's (log 20), and
only the named entry can be refused. R59 does not say whether the refused block's invalidation comes before what waited goes
on; the MODEL makes it first, before a waiting read's lookup (DEDUCED; log 18) and before the directory effect of a waiting
write (DESIGN CHOICE, unsafe; log 25). -/
def State.ackEntries (k : Nat) (status : Status) (s : State) : State :=
  let removed := s.wq.entries.take k
  let s' := s.removeEntries k
  let s' :=
    match removed.getLast? with
    | some e => if refuses status then s'.refuseWrite e else s'
    | none => s'
  let s' := if removed.any (fun e => !e.posted) then s'.endWriter (refuses status) else s'
  s'.resumeQueueSpace.resumeQueueEmpty

/-- The refusal total the next ack should carry: RT, plus 1 for a refusing status (R60). -/
def WriteQueue.expectedTotal (status : Status) (q : WriteQueue) : BitVec 8 :=
  if refuses status then q.rt + 1#8 else q.rt

/-- The refusal total of every WRITE_ACK is compared with the bridge's own (R60). -/
def State.checkTotal (status : Status) (total : BitVec 8) (s : State) : State :=
  let expected := s.wq.expectedTotal status
  let s' := { s with wq := { s.wq with rt := total } }
  if total = expected then s' else s'.handRecord ⟨.writeRefusedTotal, total - expected⟩

/-- The write queue takes a WRITE_ACK (R57 to R60). -/
def State.takeWriteAck (seq : Seq) (status : Status) (total : BitVec 8) (s : State) : State :=
  let s' :=
    match s.wq.named seq with
    | some k => s.ackEntries k status
    | none => s.bump .staleFrames
  (s'.checkTotal status total).transmit

/-! ## Notices -/

/-- The notice checker takes a NOTICE (R71, R72, R74). -/
def State.takeNotice (seq : Seq) (line : LineAddr) (s : State) : State :=
  if seq = s.notices.expected then
    let s' := { s with notices := { expected := s.notices.expected + 1#8 } }
    if s.dir.probe line then (s'.dropLine line).bump .noticesApplied else s'
  else
    let s' := (s.handRecord ⟨.noticeGap s.notices.expected seq, 1#8⟩).startSweep
    { s' with notices := { expected := seq + 1#8 } }

/-- The notice checker takes a TICK (R71, R73, R75). -/
def State.takeTick (next : Seq) (s : State) : State :=
  if next = s.notices.expected then s
  else
    let s' := (s.handRecord ⟨.noticeGap s.notices.expected next, 1#8⟩).startSweep
    { s' with notices := { expected := next } }

/-! ## The receiver -/

/-- Every intact frame that arrives while the link is UP restarts the quiet timer (R106, R107). -/
def State.restartQuiet (s : State) : State :=
  { s with link := { s.link with quietTimer := s.startQuiet } }

/-- An intact frame handed to its block while the link is UP (R106). -/
def State.takeFrame (f : InFrame) (s : State) : State :=
  match f with
  | .welcome _ => s.bump .staleFrames
  | .lineData tag issue status data => s.takeLineData tag issue status data
  | .wordData tag issue status data => s.takeWordData tag issue status data
  | .writeAck seq status total => s.takeWriteAck seq status total
  | .syncAck issue => s.takeSyncAck issue
  | .notice seq line => s.takeNotice seq line
  | .tick next => s.takeTick next
  | .restart => s.fail .storeRestart

/-- An intact frame that arrives while the link is JOINING: only a WELCOME is not stale (R106). -/
def State.takeFrameJoining (f : InFrame) (s : State) : State :=
  match f with
  | .welcome first => s.joinUp first
  | .lineData _ _ _ _ | .wordData _ _ _ _ | .writeAck _ _ _ | .syncAck _ | .notice _ _ | .tick _ | .restart =>
    s.bump .staleFrames

/-- An intact frame arrives (R105, R106): discarded while the link is DOWN or FAILED, and not taken while the reset input is
asserted. -/
def State.receive (f : InFrame) (s : State) : State :=
  if s.pins.resetAsserted then s
  else
    match s.link.state with
    | .down => s
    | .failed => s
    | .joining => s.takeFrameJoining f
    | .up => s.restartQuiet.takeFrame f

/-- A frame arrives as bytes (R105): discarded unchecked while the link is DOWN or FAILED; otherwise checked, and a corrupt
one is discarded and counted, an intact one handed on. -/
def State.receiveBytes (bytes : List Byte) (s : State) : State :=
  if s.pins.resetAsserted then s
  else
    match s.link.state with
    | .down => s
    | .failed => s
    | .joining | .up =>
      match Frames.parse bytes with
      | none => s.bump .corruptFrames
      | some f => s.receive f

/-! ## The commands -/

/-- WELCOME (R95, R106). -/
def execWelcome (first : Seq) (s : State) : Host.Outcome State Fault Refusal :=
  .next (s.receive (.welcome first))

/-- LINE_DATA (R33 to R37, R106). -/
def execLineData (tag : Fin 4) (issue : Issue) (status : Status) (data : Line) (s : State) :
    Host.Outcome State Fault Refusal :=
  .next (s.receive (.lineData tag issue status data))

/-- WORD_DATA (R33 to R37, R106). -/
def execWordData (tag : Fin 4) (issue : Issue) (status : Status) (data : Vector Byte 4) (s : State) :
    Host.Outcome State Fault Refusal :=
  .next (s.receive (.wordData tag issue status data))

/-- WRITE_ACK (R57 to R60, R106). -/
def execWriteAck (seq : Seq) (status : Status) (total : BitVec 8) (s : State) : Host.Outcome State Fault Refusal :=
  .next (s.receive (.writeAck seq status total))

/-- SYNC_ACK (R149, R106). -/
def execSyncAck (issue : Issue) (s : State) : Host.Outcome State Fault Refusal :=
  .next (s.receive (.syncAck issue))

/-- NOTICE (R71, R72, R74, R106). -/
def execNotice (seq : Seq) (line : LineAddr) (s : State) : Host.Outcome State Fault Refusal :=
  .next (s.receive (.notice seq line))

/-- TICK (R71, R73, R75, R106). -/
def execTick (next : Seq) (s : State) : Host.Outcome State Fault Refusal :=
  .next (s.receive (.tick next))

/-- RESTART (R106, R108). -/
def execRestart (s : State) : Host.Outcome State Fault Refusal :=
  .next (s.receive .restart)

/-- CORRUPT_FRAME (R105): the receiver's own checks decide (log 15). -/
def execCorruptFrame (bytes : List Byte) (s : State) : Host.Outcome State Fault Refusal :=
  .next (s.receiveBytes bytes)

/-- FRAME_WHILE_DOWN (R105): while the link is DOWN or FAILED the frame is discarded unchecked (log 15). -/
def execFrameWhileDown (bytes : List Byte) (s : State) : Host.Outcome State Fault Refusal :=
  .next (s.receiveBytes bytes)

end Sys2Proof.Machine
end

