-- ==== Sys2Proof/Machine/Registers.lean ====
section
/-! DEFINITION. The register window (chapter 10, R178): what each index reads as, what a write to it does, and the commands
that are INDEX and DATA port cycles. -/

namespace Sys2Proof.Machine

/-! ## Codes (R178) -/

/-- Command status codes. -/
def statusCode : CommandStatus → Nat
  | .none => 0
  | .done => 1
  | .busy => 2
  | .wrongState => 3
  | .empty => 4
  | .badArgument => 5
  | .noIdentity => 6

/-- Link state codes. -/
def linkCode : LinkState → Nat
  | .down => 0
  | .joining => 1
  | .up => 2
  | .failed => 3

/-- Failure cause codes. -/
def causeCode : Cause → Nat
  | .readTimeout => 1
  | .writeTimeout => 2
  | .syncTimeout => 3
  | .quiet => 4
  | .storeRestart => 5
  | .joinTimeout => 6

/-- Sync state codes. -/
def syncCode : SyncState → Nat
  | .idle => 0
  | .pending => 1
  | .sent => 2
  | .done => 3
  | .failed => 4

/-- Mark status codes. -/
def markCode : MarkStatus → Nat
  | .none => 0
  | .waiting => 1
  | .sent => 2
  | .gone => 3

/-- Way state codes. -/
def wayCode : Way → Nat
  | .invalid => 0
  | .filling _ _ => 1
  | .valid _ _ => 2

/-- Record kind codes. -/
def kindCode : RecordKind → Nat
  | .misaligned => 1
  | .linkNotUp => 2
  | .unmapped => 3
  | .readOnlyWrite => 4
  | .readRefused => 5
  | .writeRefused => 6
  | .noticeGap => 7
  | .linkFailed => 8

/-! ## Fields of a register -/

/-- A number as a field whose lowest bit is `low` (R178). -/
def field (low : Nat) (n : Nat) : Half :=
  BitVec.ofNat 16 n <<< low

/-- A flag as a register bit (R178). -/
def flag (bit : Nat) (b : Bool) : Half :=
  if b then 1#16 <<< bit else 0#16

/-- A value that is read as 0 with its present bit clear when it is absent (R178). -/
def orZero {α : Type} (x : Option α) (show' : α → Half) : Half :=
  match x with
  | some a => show' a
  | none => 0#16

/-- The low and high halves of a remote address: bits 15..0, and bits 27..16 in bits 11..0 (R178). -/
def remoteLow (a : RemoteAddr) : Half := a.extractLsb' 0 16

/-- The high half of a remote address (R178). -/
def remoteHigh (a : RemoteAddr) : Half := 0#4 ++ a.extractLsb' 16 12

/-- The low half of a local offset (R178). -/
def offsetLow (a : Offset) : Half := a.extractLsb' 0 16

/-- The high half of a local offset: bits 25..16 in bits 9..0 (R178). -/
def offsetHigh (a : Offset) : Half := 0#6 ++ a.extractLsb' 16 10

/-! ## The registers that show a block's state -/

/-- Index 10H (R91). -/
def State.linkRegister (s : State) : Half :=
  field 0 (linkCode s.link.state) ||| field 4 s.link.joinRetries.toNat |||
    orZero s.link.lastCause (fun c => field 8 (causeCode c))

/-- Index 12H (R79). -/
def State.sweepRegister (s : State) : Half :=
  field 0 s.sweep.position ||| flag 15 s.sweep.isRunning

/-- Index 13H (R145). -/
def State.syncRegister (s : State) : Half :=
  field 0 (syncCode s.sync.state) ||| field 4 (markCode s.sync.mark) ||| field 8 s.sync.issue.toNat |||
    field 12 s.sync.retries.toNat

/-- An optional sequence number in bits 7..0 with its present flag in bit 15, as at 14H and 1AH. -/
def optionalSeq (q : Option Seq) : Half :=
  orZero q (fun u => field 0 u.toNat ||| flag 15 true)

/-- Index 18H (R69). -/
def State.queueRegister (s : State) : Half :=
  field 0 s.wq.entries.length ||| field 4 (s.wq.entries.countP WriteEntry.isSent) |||
    field 8 (s.wq.entries.countP WriteEntry.isReplay) ||| field 12 s.wq.replayCount.toNat

/-- The write entry at the selected position, if the position holds one (R69). -/
def State.selectedWrite (s : State) : Option WriteEntry :=
  s.wq.entries[s.sel.queuePos.val]?

/-- Index 1CH (R69). -/
def writeItems (e : WriteEntry) : Half :=
  flag 0 true ||| flag 1 e.isSent ||| flag 2 e.isReplay ||| flag 3 e.posted ||| flag 4 e.closed ||| field 5 e.window.val |||
    orZero e.seq? (fun q => field 8 q.toNat)

/-- Index 25H (R45). -/
def readItems (e : ReadEntry) : Half :=
  field 8 e.issue.toNat ||| field 10 e.retries.toNat |||
    orZero e.work (fun w =>
      flag 0 true ||| flag 3 (w.phase == .awaiting) ||| field 5 w.window.val |||
        (match w.request with
         | .line _ purpose _ => flag 2 (purpose == .prefetch)
         | .word _ size => flag 1 true ||| field 13 (sizeBytes size)))

/-- The remote address item of a read entry: the line address × 32, the byte address, or 0 when FREE (R45). -/
def readAddr (e : ReadEntry) : RemoteAddr :=
  match e.work with
  | some w => w.request.recordAddr
  | none => 0#28

/-- Index 28H (R45). -/
def readTarget (e : ReadEntry) : Half :=
  orZero (e.work.bind ReadWork.target?) (fun t => field 0 t.set.toNat ||| field 8 t.way.val ||| flag 15 true)

/-- The selected set of the inspection (R22). -/
def State.inspectedSet (s : State) : CacheSet :=
  s.dir.get s.sel.inspSet

/-- The selected way of the inspection (R22). -/
def State.inspectedWay (s : State) : Way :=
  s.inspectedSet.ways[s.sel.inspWay]

/-- Index 2EH (R22). -/
def State.wayRegister (s : State) : Half :=
  field 0 (wayCode s.inspectedWay) ||| field 4 (s.inspectedSet.recency s.sel.inspWay) |||
    orZero s.inspectedWay.ref? (fun r => field 8 r.val)

/-- Half j of the inspected way's data, line bytes 2j and 2j + 1, the lower byte least significant; 0 unless VALID (R22). -/
def State.dataHalf (j : BitVec 4) (s : State) : Half :=
  match s.inspectedWay with
  | .valid _ data => byteAt data (j ++ 1#1) ++ byteAt data (j ++ 0#1)
  | .invalid => 0#16
  | .filling _ _ => 0#16

/-- The head record, if there is one (R160). -/
def State.headRecord (s : State) : Option ErrorRecord :=
  s.records.list.head?

/-- Index 42H (R160). -/
def recordFlags (r : RecordBody) : Half :=
  flag 0 r.window?.isSome ||| flag 1 r.offset?.isSome ||| flag 2 r.remote?.isSome ||| flag 3 r.pair?.isSome |||
    orZero r.window? (fun w => field 8 w.val)

/-- Index 47H (R160). -/
def recordPair (r : RecordBody) : Half :=
  orZero r.pair? (fun p => field 0 p.1.toNat ||| field 8 p.2.toNat)

/-- Index 48H (R160). -/
def recordCause (r : RecordBody) : Half :=
  orZero r.cause? (fun c => field 0 (causeCode c.1) ||| field 8 c.2.toNat)

/-- The selected window entry (R115). -/
def State.selectedWindow (s : State) : Window :=
  s.windows[s.sel.window]

/-! ## Reads -/

/-- The value of a register by its index (R178). An unimplemented index and the command register read 0 (R169). -/
def State.readRegister (i : BitVec 7) (s : State) : Half :=
  match i.toNat with
  | 0x00 => Config.vendorCode
  | 0x01 => Config.revision
  | 0x02 => 0#12 ++ s.link.boardNumber
  | 0x04 => field 0 (statusCode s.cmd.status)
  | 0x05 => field 0 s.cmd.windowArg.val
  | 0x06 => remoteLow s.cmd.remoteArg
  | 0x07 => remoteHigh s.cmd.remoteArg
  | 0x08 => field 0 s.settings.t.toNat ||| field 8 s.settings.retryLimit.toNat
  | 0x09 => field 0 s.settings.q.toNat
  | 0x0A => flag 0 s.link.autoRejoin ||| flag 1 s.bus.berrEn
  | 0x0B => flag 0 s.dir.hold
  | 0x0C => flagBits s.irq.enables
  | 0x0D => flagBits s.irq.flags
  | 0x10 => s.linkRegister
  | 0x11 => field 0 s.notices.expected.toNat
  | 0x12 => s.sweepRegister
  | 0x13 => s.syncRegister
  | 0x14 => optionalSeq s.sync.through
  | 0x18 => s.queueRegister
  | 0x19 => field 0 s.wq.nws.toNat ||| field 8 s.wq.rt.toNat
  | 0x1A => optionalSeq s.wq.lastAssigned
  | 0x1B => field 0 s.sel.queuePos.val
  | 0x1C => orZero s.selectedWrite writeItems
  | 0x1D => orZero s.selectedWrite (fun e => remoteLow (baseOf e.block))
  | 0x1E => orZero s.selectedWrite (fun e => remoteHigh (baseOf e.block))
  | 0x1F => orZero s.selectedWrite (fun e => (maskOf e.bytes).extractLsb' 0 16)
  | 0x20 => orZero s.selectedWrite (fun e => (maskOf e.bytes).extractLsb' 16 16)
  | 0x24 => field 0 s.sel.readEntry.val
  | 0x25 => readItems s.reads.entries[s.sel.readEntry]
  | 0x26 => remoteLow (readAddr s.reads.entries[s.sel.readEntry])
  | 0x27 => remoteHigh (readAddr s.reads.entries[s.sel.readEntry])
  | 0x28 => readTarget s.reads.entries[s.sel.readEntry]
  | 0x2C => field 0 s.sel.inspSet.toNat
  | 0x2D => field 0 s.sel.inspWay.val
  | 0x2E => s.wayRegister
  | 0x2F => orZero s.inspectedWay.tag? (fun t => field 0 t.toNat)
  | 0x30 => s.dataHalf 0#4
  | 0x31 => s.dataHalf 1#4
  | 0x32 => s.dataHalf 2#4
  | 0x33 => s.dataHalf 3#4
  | 0x34 => s.dataHalf 4#4
  | 0x35 => s.dataHalf 5#4
  | 0x36 => s.dataHalf 6#4
  | 0x37 => s.dataHalf 7#4
  | 0x38 => s.dataHalf 8#4
  | 0x39 => s.dataHalf 9#4
  | 0x3A => s.dataHalf 10#4
  | 0x3B => s.dataHalf 11#4
  | 0x3C => s.dataHalf 12#4
  | 0x3D => s.dataHalf 13#4
  | 0x3E => s.dataHalf 14#4
  | 0x3F => s.dataHalf 15#4
  | 0x40 => field 0 s.records.list.length ||| field 8 s.records.overflow.toNat
  | 0x41 => orZero s.headRecord (fun r => field 0 (kindCode r.body.kind) ||| field 8 r.count.toNat)
  | 0x42 => orZero s.headRecord (fun r => recordFlags r.body)
  | 0x43 => orZero (s.headRecord.bind fun r => r.body.offset?) offsetLow
  | 0x44 => orZero (s.headRecord.bind fun r => r.body.offset?) offsetHigh
  | 0x45 => orZero (s.headRecord.bind fun r => r.body.remote?) remoteLow
  | 0x46 => orZero (s.headRecord.bind fun r => r.body.remote?) remoteHigh
  | 0x47 => orZero s.headRecord (fun r => recordPair r.body)
  | 0x48 => orZero s.headRecord (fun r => recordCause r.body)
  | 0x50 => s.counters.hits
  | 0x51 => s.counters.misses
  | 0x52 => s.counters.noticesApplied
  | 0x53 => s.counters.staleFrames
  | 0x54 => s.counters.corruptFrames
  | 0x55 => s.counters.readResends
  | 0x56 => s.counters.writeReplays
  | 0x58 => field 0 s.sel.window.val
  | 0x59 => flag 0 s.selectedWindow.enabled
  | 0x5A => s.selectedWindow.readField .localLow
  | 0x5B => s.selectedWindow.readField .localHigh
  | 0x5C => s.selectedWindow.readField .sizeCode
  | 0x5D => s.selectedWindow.readField .remoteLow
  | 0x5E => s.selectedWindow.readField .remoteHigh
  | 0x5F => s.selectedWindow.readField .attributes
  | _ => 0#16

/-! ## Writes -/

/-- T and the retry limit, index 08H (R170). -/
def State.writeTimeouts (v : Half) (s : State) : State :=
  { s with settings := { s.settings with t := v.extractLsb' 0 7, retryLimit := v.extractLsb' 8 3 } }

/-- Q, index 09H (R170). -/
def State.writeQuietLimit (v : Half) (s : State) : State :=
  { s with settings := { s.settings with q := v.extractLsb' 0 8 } }

/-- AUTO_REJOIN and BERR_EN, index 0AH (R170). -/
def State.writeModes (v : Half) (s : State) : State :=
  { s with link := { s.link with autoRejoin := v.getLsbD 0 }, bus := { s.bus with berrEn := v.getLsbD 1 } }

/-- HOLD, index 0BH (R20, R170). -/
def State.writeHold (v : Half) (s : State) : State :=
  { s with dir := { s.dir with hold := v.getLsbD 0 } }

/-- The interrupt enables, index 0CH (R166, R170). -/
def State.writeEnables (v : Half) (s : State) : State :=
  { s with irq := { s.irq with enables := flagsOfBits v } }

/-- The interrupt flags, index 0DH: a one written clears the flag (R165). -/
def State.writeFlags (v : Half) (s : State) : State :=
  { s with irq := { s.irq with flags := clearFlags s.irq.flags v } }

/-- What a DATA write of a value does to the register of an index (R169, R178). Read-only and unimplemented indices ignore
it. -/
def State.writeRegister (i : BitVec 7) (v : Half) (s : State) : State :=
  match i.toNat with
  | 0x03 => s.commandRegister v
  | 0x05 => { s with cmd := { s.cmd with windowArg := (v.extractLsb' 0 3).toFin } }
  | 0x06 => { s with cmd := { s.cmd with remoteArg := s.cmd.remoteArg.extractLsb' 16 12 ++ v } }
  | 0x07 => { s with cmd := { s.cmd with remoteArg := v.extractLsb' 0 12 ++ s.cmd.remoteArg.extractLsb' 0 16 } }
  | 0x08 => s.writeTimeouts v
  | 0x09 => s.writeQuietLimit v
  | 0x0A => s.writeModes v
  | 0x0B => s.writeHold v
  | 0x0C => s.writeEnables v
  | 0x0D => s.writeFlags v
  | 0x1B => { s with sel := { s.sel with queuePos := (v.extractLsb' 0 3).toFin } }
  | 0x24 => { s with sel := { s.sel with readEntry := (v.extractLsb' 0 2).toFin } }
  | 0x2C => { s with sel := { s.sel with inspSet := v.extractLsb' 0 8 } }
  | 0x2D => { s with sel := { s.sel with inspWay := (v.extractLsb' 0 2).toFin } }
  | 0x58 => { s with sel := { s.sel with window := (v.extractLsb' 0 3).toFin } }
  | 0x5A => s.writeWindowField .localLow v
  | 0x5B => s.writeWindowField .localHigh v
  | 0x5C => s.writeWindowField .sizeCode v
  | 0x5D => s.writeWindowField .remoteLow v
  | 0x5E => s.writeWindowField .remoteHigh v
  | 0x5F => s.writeWindowField .attributes v
  | _ => s

/-! ## The ports -/

/-- A DATA read of 16 bits: the value of the selected register, then the index moves on (R168). The cycle is not taken while
an access is pending or the reset input is asserted (R126, R127; log 8). -/
def State.dataRead (s : State) : State :=
  if s.busHeld then s
  else (s.advanceIndex).endRead (0#16 ++ s.readRegister s.bus.index) false

/-- A DATA-port access of 8 or 32 bits reaches no register, and the index stays (R168). -/
def State.wrongWidth (access : WrongWidth) (s : State) : State :=
  if s.busHeld then s
  else
    match access with
    | .read8 => s.endRead 0xFF#32 false
    | .read32 => s.endRead 0xFFFFFFFF#32 false
    | .write8 _ => s.endWrite false
    | .write32 _ => s.endWrite false

/-- A byte written to the INDEX port: bits 6..0 are the index, bit 7 is auto-increment, and the cycle ends with ready
(R167). -/
def State.writeIndex (v : Byte) (s : State) : State :=
  { s with bus := { s.bus with index := v.extractLsb' 0 7, autoIncrement := v.getLsbD 7 } }.endWrite false

/-- What the INDEX port reads as: the index in bits 6..0, auto-increment in bit 7 (R167). -/
def State.indexPort (s : State) : Byte :=
  BitVec.ofBool s.bus.autoIncrement ++ s.bus.index

/-- A read of the INDEX port: the cycle ends with the port in its low byte and 0 in the others, and nothing else changes
(R167). -/
def State.readIndex (s : State) : State :=
  s.endRead (0#24 ++ s.indexPort) false

/-- A cycle on the INDEX port: of whatever width, it is an 8-bit cycle on its low byte (R167). It is not taken while an
access is pending or the reset input is asserted (R126, R127; log 8). -/
def State.indexCycle (c : IndexCycle) (s : State) : State :=
  if s.busHeld then s
  else
    match c with
    | .read8 | .read16 | .read32 => s.readIndex
    | .write8 v => s.writeIndex v
    | .write16 v => s.writeIndex (v.extractLsb' 0 8)
    | .write32 v => s.writeIndex (v.extractLsb' 0 8)

/-! ## The commands -/

/-- INDEX_WRITE: a cycle on the INDEX port, its reads among them (R167; log 14). -/
def execIndexWrite (cycle : IndexCycle) (s : State) : Host.Outcome State Fault Refusal :=
  .next (s.indexCycle cycle)

/-- DATA_WRONG_WIDTH (R168). -/
def execDataWrongWidth (access : WrongWidth) (s : State) : Host.Outcome State Fault Refusal :=
  .next (s.wrongWidth access)

/-- REGISTER_WRITE: a DATA write to the register the index selects (R168, R169, R179; log 7). -/
def execRegisterWrite (value : Half) (s : State) : Host.Outcome State Fault Refusal :=
  .next (s.dataWrite (State.writeRegister s.bus.index value))

/-- WINDOW_FIELD_WRITE: a DATA write to a field register of the selected window entry (R114, R168; log 6). -/
def execWindowFieldWrite (field : WindowField) (value : Half) (s : State) : Host.Outcome State Fault Refusal :=
  .next (s.dataWrite (State.writeWindowField field value))

/-- INTERRUPT_FLAG_CLEAR: a DATA write to the interrupt flag register (R165, R168; log 6). -/
def execInterruptFlagClear (value : Half) (s : State) : Host.Outcome State Fault Refusal :=
  .next (s.dataWrite (State.writeFlags value))

/-- INTERRUPT_ENABLE_WRITE: a DATA write to the interrupt enables (R166, R168; log 6). -/
def execInterruptEnableWrite (value : Half) (s : State) : Host.Outcome State Fault Refusal :=
  .next (s.dataWrite (State.writeEnables value))

/-- DATA_READ (R168, R169, R178). -/
def execDataRead (s : State) : Host.Outcome State Fault Refusal :=
  .next s.dataRead

end Sys2Proof.Machine
end

