-- ==== Sys2Proof/Machine/Reset.lean ====
section
/-! DEFINITION. The reset input (R91, R92, R144): its assertion, with the straps it latches, and its deassertion. -/

namespace Sys2Proof.Machine

/-- The reset input is asserted with the straps at a level (R91, R92, R144): every block takes its reset state, a pending
access is abandoned unanswered, and the straps are copied into the board number. A further RESET_INPUT while it stays asserted
copies the straps again. The waiting commands and the count of sweeps stay. -/
def State.assertReset (straps : BitVec 4) (s : State) : State :=
  { State.resetWith straps with
    pins := { resetAsserted := true, straps := straps }
    pending := s.pending
    freeCount := s.freeCount }

/-- The reset input is deasserted: the board number holds the last value copied (R92). Nothing changes if it is not
asserted. -/
def State.deassertReset (s : State) : State :=
  if s.pins.resetAsserted then
    { s with
      pins := { s.pins with resetAsserted := false }
      link := { s.link with boardNumber := s.pins.straps } }
  else s

/-! ## The commands -/

/-- RESET_INPUT (R91, R92, R144). -/
def execResetInput (straps : BitVec 4) (s : State) : Host.Outcome State Fault Refusal :=
  .next (s.assertReset straps)

/-- RESET_DEASSERTION (R92, R144). -/
def execResetDeassertion (s : State) : Host.Outcome State Fault Refusal :=
  .next s.deassertReset

end Sys2Proof.Machine
end

