-- ==== Sys2Proof/Machine/Timers.lean ====
section
/-! DEFINITION. The commands that are events of the part itself: a transmission's end (R102), the timers' expiries (R39, R61,
R94, R107, R151) and the sweep step (R83). An expiry of a timer that does not run, the end of a transmission that is not
under way and a step of a sweep that does not run are no events, and change nothing (log 5). -/

namespace Sys2Proof.Machine

/-- The end of a transmission frees the transmitter, which makes its next choice (R102, R103). -/
def State.endTransmission (s : State) : State :=
  match s.link.tx with
  | .sending _ => { s with link := { s.link with tx := .free } }.transmit
  | .free => s

/-- The resend of a read request (R40): issue number and retries are incremented, READ_RESENDS counts, and the tag joins the
tail of the send list with the entry AWAITING. The timer is stopped until the transmitter takes the request. -/
def State.resendRead (tag : Fin 4) (w : ReadWork) (s : State) : State :=
  let e := s.reads.entries[tag]
  { s with reads :=
      { entries := s.reads.entries.set tag.val
          { e with work := some { w with phase := .awaiting }, issue := e.issue + 1#2, retries := e.retries + 1#3,
                   timer := .stopped } tag.isLt
        sendList := s.reads.sendList ++ [tag] } }.bump .readResends

/-- A read entry's response timer expires (R40, R41). -/
def State.expireResponse (tag : Fin 4) (s : State) : State :=
  match (s.reads.entries[tag]).work with
  | some w =>
    if (s.reads.entries[tag]).timer.isRunning then
      if (s.reads.entries[tag]).retries.toNat < s.settings.retryLimit.toNat then (s.resendRead tag w).transmit
      else s.fail .readTimeout
    else s
  | none => s

/-- A write entry flagged for resend, if it is SENT (R62). -/
def WriteEntry.flagged (e : WriteEntry) : WriteEntry :=
  match e.state with
  | .sent q _ => { e with state := .sent q true }
  | .queued => e

/-- The go-back replay (R62). -/
def State.replay (s : State) : State :=
  { s with wq := { s.wq with
      entries := s.wq.entries.map WriteEntry.flagged
      replayCount := s.wq.replayCount + 1#3
      timer := s.startTimer } }.bump .writeReplays

/-- The write timer expires (R62, R64). -/
def State.expireWrite (s : State) : State :=
  if s.wq.timer.isRunning then
    if s.wq.replayCount.toNat < s.settings.retryLimit.toNat then s.replay.transmit else s.fail .writeTimeout
  else s

/-- The resend of a barrier (R151): issue number and retries are incremented, the state is PENDING again, the timer is
stopped until the transmitter takes the frame. -/
def State.resendSync (s : State) : State :=
  { s with sync := { s.sync with
      state := .pending, issue := s.sync.issue + 1#2, retries := s.sync.retries + 1#3, timer := .stopped } }

/-- The sync timer expires (R151). -/
def State.expireSync (s : State) : State :=
  if s.sync.timer.isRunning then
    if s.sync.retries.toNat < s.settings.retryLimit.toNat then s.resendSync.transmit else s.fail .syncTimeout
  else s

/-- The resend of a JOIN (R94). -/
def State.resendJoin (s : State) : State :=
  { s with link := { s.link with
      joinRetries := s.link.joinRetries + 1#3, joinPending := true, joinTimer := .stopped } }

/-- The join ends in failure (R101): the join timer stops; no teardown, no sweep start, no rejoin. -/
def State.failJoin (s : State) : State :=
  ({ s with link := { s.link with joinTimer := .stopped } }.linkFailed .joinTimeout).reportFailure .joinTimeout 0

/-- The join timer expires (R94, R101). -/
def State.expireJoin (s : State) : State :=
  if s.link.joinTimer.isRunning then
    if s.link.joinRetries.toNat < s.settings.retryLimit.toNat then s.resendJoin.transmit else s.failJoin
  else s

/-- The quiet timer expires (R107). -/
def State.expireQuiet (s : State) : State :=
  if s.link.quietTimer.isRunning then s.fail .quiet else s

/-- A sweep step (R83, R84): the set at the position is cleared and the position moves on; the step for set 255 ends the
sweep and sets the SWEEP flag. -/
def State.stepSweep (s : State) : State :=
  match s.sweep with
  | .running p =>
    let s' := s.onSet p (fun _ => CacheSet.cleared)
    if p = 255#8 then { s' with sweep := .idle true }.setSweepFlag else { s' with sweep := .running (p + 1#8) }
  | .idle _ => s

/-! ## The commands -/

/-- TRANSMISSION_END (R102, R103). -/
def execTransmissionEnd (s : State) : Host.Outcome State Fault Refusal :=
  .next s.endTransmission

/-- RESPONSE_TIMER_EXPIRY (R39 to R41). -/
def execResponseTimerExpiry (tag : Fin 4) (s : State) : Host.Outcome State Fault Refusal :=
  .next (s.expireResponse tag)

/-- WRITE_TIMER_EXPIRY (R61, R62, R64). -/
def execWriteTimerExpiry (s : State) : Host.Outcome State Fault Refusal :=
  .next s.expireWrite

/-- SYNC_TIMER_EXPIRY (R151). -/
def execSyncTimerExpiry (s : State) : Host.Outcome State Fault Refusal :=
  .next s.expireSync

/-- JOIN_TIMER_EXPIRY (R94, R101). -/
def execJoinTimerExpiry (s : State) : Host.Outcome State Fault Refusal :=
  .next s.expireJoin

/-- QUIET_TIMER_EXPIRY (R107). -/
def execQuietTimerExpiry (s : State) : Host.Outcome State Fault Refusal :=
  .next s.expireQuiet

/-- SWEEP_STEP (R83, R84). -/
def execSweepStep (s : State) : Host.Outcome State Fault Refusal :=
  .next s.stepSweep

end Sys2Proof.Machine
end

