-- ==== Sys2Proof/Machine/Dispatch.lean ====
section
/-! DEFINITION. One arm for each command: its meaning. -/

namespace Sys2Proof.Machine

/-- The effect of a command on everything but the queue of waiting commands. -/
def exec (i : Instr) (s : State) : Host.Outcome State Fault Refusal :=
  match i with
  | .resetInput straps => Sys2Proof.Machine.execResetInput straps s
  | .resetDeassertion => Sys2Proof.Machine.execResetDeassertion s
  | .apertureRead cycle => Sys2Proof.Machine.execApertureRead cycle s
  | .apertureWrite cycle data => Sys2Proof.Machine.execApertureWrite cycle data s
  | .readResumesFreeEntry => Sys2Proof.Machine.execReadResumesFreeEntry s
  | .writeResumesQueueSpace => Sys2Proof.Machine.execWriteResumesQueueSpace s
  | .orderedReadDispatch => Sys2Proof.Machine.execOrderedReadDispatch s
  | .indexWrite cycle => Sys2Proof.Machine.execIndexWrite cycle s
  | .dataWrongWidth access => Sys2Proof.Machine.execDataWrongWidth access s
  | .registerWrite value => Sys2Proof.Machine.execRegisterWrite value s
  | .windowFieldWrite field value => Sys2Proof.Machine.execWindowFieldWrite field value s
  | .interruptFlagClear value => Sys2Proof.Machine.execInterruptFlagClear value s
  | .interruptEnableWrite value => Sys2Proof.Machine.execInterruptEnableWrite value s
  | .join => Sys2Proof.Machine.execJoin s
  | .stop => Sys2Proof.Machine.execStop s
  | .softReset => Sys2Proof.Machine.execSoftReset s
  | .sweep => Sys2Proof.Machine.execSweep s
  | .sync => Sys2Proof.Machine.execSync s
  | .popRecord => Sys2Proof.Machine.execPopRecord s
  | .invalidateLine => Sys2Proof.Machine.execInvalidateLine s
  | .enableWindow => Sys2Proof.Machine.execEnableWindow s
  | .disableWindow => Sys2Proof.Machine.execDisableWindow s
  | .clearCounters => Sys2Proof.Machine.execClearCounters s
  | .clearOverflow => Sys2Proof.Machine.execClearOverflow s
  | .unknownCommand value => Sys2Proof.Machine.execUnknownCommand value s
  | .welcome first => Sys2Proof.Machine.execWelcome first s
  | .lineData tag issue status data => Sys2Proof.Machine.execLineData tag issue status data s
  | .wordData tag issue status data => Sys2Proof.Machine.execWordData tag issue status data s
  | .writeAck seq status total => Sys2Proof.Machine.execWriteAck seq status total s
  | .syncAck issue => Sys2Proof.Machine.execSyncAck issue s
  | .notice seq line => Sys2Proof.Machine.execNotice seq line s
  | .tick next => Sys2Proof.Machine.execTick next s
  | .restart => Sys2Proof.Machine.execRestart s
  | .corruptFrame bytes => Sys2Proof.Machine.execCorruptFrame bytes s
  | .frameWhileDown bytes => Sys2Proof.Machine.execFrameWhileDown bytes s
  | .transmissionEnd => Sys2Proof.Machine.execTransmissionEnd s
  | .responseTimerExpiry tag => Sys2Proof.Machine.execResponseTimerExpiry tag s
  | .writeTimerExpiry => Sys2Proof.Machine.execWriteTimerExpiry s
  | .syncTimerExpiry => Sys2Proof.Machine.execSyncTimerExpiry s
  | .joinTimerExpiry => Sys2Proof.Machine.execJoinTimerExpiry s
  | .quietTimerExpiry => Sys2Proof.Machine.execQuietTimerExpiry s
  | .sweepStep => Sys2Proof.Machine.execSweepStep s
  | .dataRead => Sys2Proof.Machine.execDataRead s

end Sys2Proof.Machine
end

