-- ==== Sys2Proof/Safety.lean ====
section
/-! DEFINITION. The laws the spec states of the whole bridge, as predicates of a state. A safe run is one whose every state
obeys them. -/

namespace Sys2Proof.Machine

/-- The law of the directory's order in one set (R3): the recency order is a permutation of the four way numbers, and every
INVALID way stands behind every way that is not INVALID. -/
def CacheSet.OrderLaw (c : CacheSet) : Prop :=
  c.order.Perm [0, 1, 2, 3] ∧ c.order.Pairwise fun a b => (c.ways[a]).isInvalid = true → (c.ways[b]).isInvalid = true

/-- The law of the directory's order (R3). -/
def State.OrderLaw (s : State) : Prop :=
  ∀ i : SetIndex, (s.dir.get i).OrderLaw

/-- The directory's uniqueness law (R4): no two ways of one set are VALID or FILLING with the same tag. -/
def State.UniqueLaw (s : State) : Prop :=
  ∀ (i : SetIndex) (v w : Fin 4) (t : Tag),
    ((s.dir.get i).ways[v]).tag? = some t → ((s.dir.get i).ways[w]).tag? = some t → v = w

/-- No way of the directory is FILLING. -/
def State.NoFilling (s : State) : Prop :=
  ∀ (i : SetIndex) (w : Fin 4), ((s.dir.get i).ways[w]).isFilling = false

/-- The law of the fill reference (R10): every FILLING way is the target way of the OUTSTANDING entry its fill reference
names, and every target way named by an OUTSTANDING entry is FILLING with that entry's line and the entry's tag. -/
def State.FillLaw (s : State) : Prop :=
  (∀ (i : SetIndex) (w : Fin 4) (t : Tag) (ref : Fin 4), (s.dir.get i).ways[w] = .filling t ref →
    ∃ work, (s.reads.entries[ref]).work = some work ∧ work.target? = some ⟨i, w⟩) ∧
  (∀ (tag : Fin 4) (work : ReadWork) (line : LineAddr) (p : Purpose) (x : Target),
    (s.reads.entries[tag]).work = some work → work.request = .line line p (some x) →
    x.set = setOf line ∧ (s.dir.get x.set).ways[x.way] = .filling (tagOf line) tag)

/-- The law of the running sweep (R85, R81): no set below the position holds a VALID or FILLING way, and no way of any set is
FILLING. -/
def State.SweepLaw (s : State) : Prop :=
  ∀ p : SetIndex, s.sweep = .running p →
    s.NoFilling ∧ ∀ (i : SetIndex) (w : Fin 4), i < p → (s.dir.get i).ways[w] = .invalid

/-- A run of write entries whose SENT entries stand first, with consecutive sequence numbers up to the one before NWS. -/
def QueueRun (nws : Seq) : List WriteEntry → Prop
  | [] => True
  | e :: rest =>
    match e.seq? with
    | some q => q + BitVec.ofNat 8 ((e :: rest).countP WriteEntry.isSent) = nws ∧ QueueRun nws rest
    | none => ∀ f ∈ rest, f.isQueued = true

/-- The law of the queue's shape (R48): at most 8 entries, every SENT entry ahead of every QUEUED one, and the sequence
numbers consecutive modulo 256. -/
def State.QueueLaw (s : State) : Prop :=
  s.wq.entries.length ≤ 8 ∧ QueueRun s.wq.nws s.wq.entries

/-- The law of the write entries of a queue (R47, R48): among the SENT entries those with the replay flag set form an unbroken
run at the back, at most one entry holds the mark flag, every entry carries at least one byte, and the mark entry and every
non-posted entry are closed (R54, R65). -/
structure EntriesLaw (entries : List WriteEntry) : Prop where
  replay : (entries.filter WriteEntry.isSent).Pairwise fun older younger => older.isReplay = true → younger.isReplay = true
  mark : entries.countP WriteEntry.mark ≤ 1
  bytes : ∀ e ∈ entries, ∃ k : Fin 32, (e.bytes[k]).isSome = true
  closed : ∀ e ∈ entries, e.mark = true ∨ e.posted = false → e.closed = true

/-- The law of the write entries (R47, R48). -/
def State.EntryLaw (s : State) : Prop :=
  EntriesLaw s.wq.entries

/-- The law of the window table (R113, R116): the fields of every enabled entry meet the three checks of ENABLE_WINDOW. -/
def State.WindowLaw (s : State) : Prop :=
  ∀ i : Fin 8, (s.windows[i]).enabled = true →
    (s.windows[i]).sizeCode.toNat ≤ 12 ∧
    ((s.windows[i]).localBase % (s.windows[i]).size = 0 ∧ (s.windows[i]).localBase + (s.windows[i]).size ≤ 0x4000000) ∧
    (s.windows[i]).remoteBase % (s.windows[i]).size = 0 ∧ (s.windows[i]).remoteBase + (s.windows[i]).size ≤ 0x10000000

/-- The link law (R91, R98): while the link is not UP, no read entry is OUTSTANDING, the write queue is empty, no way is
FILLING, and sync is neither PENDING nor SENT; no access is pending either (R143). -/
def State.LinkLaw (s : State) : Prop :=
  s.link.state ≠ .up →
    (∀ t : Fin 4, (s.reads.entries[t]).work = none) ∧ s.wq.entries = [] ∧ s.NoFilling ∧
      s.sync.state ≠ .pending ∧ s.sync.state ≠ .sent ∧ s.bus.access = none

/-- The law of the record queue (R155): at most 8 records, each count in 1 to 255. -/
def State.RecordLaw (s : State) : Prop :=
  s.records.list.length ≤ 8 ∧ ∀ r ∈ s.records.list, r.count ≠ 0#8

/-- A frame is offered to the transmitter (R103). -/
def State.Offered (s : State) : Prop :=
  s.link.joinPending = true ∨ s.reads.sendList ≠ [] ∨ (writeOffer s.wq.entries).isSome = true ∨ s.sync.ready = true

/-- The transmitter's law (R102): it is FREE only while no frame is offered to it. -/
def State.TransmitterLaw (s : State) : Prop :=
  s.link.tx = .free → ¬ s.Offered

/-- The law of the send list (R27): a tag stands in it at most once, and exactly while its entry is AWAITING. -/
def State.SendLaw (s : State) : Prop :=
  s.reads.sendList.Nodup ∧
    ∀ t : Fin 4, t ∈ s.reads.sendList ↔ ∃ w, (s.reads.entries[t]).work = some w ∧ w.phase = .awaiting

/-- Each timer runs exactly while it guards something: a response timer an IN_FLIGHT entry (R39), the write timer a SENT entry
(R61), the sync timer a SENT barrier (R148), the join timer a JOIN that has been taken (R94), the quiet timer a link that is UP
(R107). A JOIN is pending only in JOINING (R103). -/
def State.TimerLaw (s : State) : Prop :=
  (∀ t : Fin 4, (s.reads.entries[t]).timer.isRunning = true ↔
    ∃ w, (s.reads.entries[t]).work = some w ∧ w.phase = .inFlight) ∧
  (s.wq.timer.isRunning = true ↔ s.wq.entries.any WriteEntry.isSent = true) ∧
  (s.sync.timer.isRunning = true ↔ s.sync.state = .sent) ∧
  (s.link.joinTimer.isRunning = true ↔ s.link.state = .joining ∧ s.link.joinPending = false) ∧
  (s.link.quietTimer.isRunning = true ↔ s.link.state = .up) ∧
  (s.link.joinPending = true → s.link.state = .joining)

/-- How many read entries have a waiter (R26). -/
def State.waiters (s : State) : Nat :=
  s.reads.entries.toList.countP fun e => (e.work.map ReadWork.waiter).getD false

/-- How many read entries are OUTSTANDING without a waiter (R28). -/
def State.unwaited (s : State) : Nat :=
  s.reads.entries.toList.countP fun e => (e.work.map fun w => !w.waiter).getD false

/-- How many write entries are non-posted (R65). -/
def State.nonPosted (s : State) : Nat :=
  s.wq.entries.countP fun e => !e.posted

/-- The law of the bus interface (R126, R26, R65): a pending access waits on exactly one thing, and that thing is there. A read
never waits on a free entry, because R28's prefetch conditions leave one for it. -/
def State.BusLaw (s : State) : Prop :=
  match s.bus.access with
  | none => s.waiters = 0 ∧ s.nonPosted = 0
  | some a =>
    match a.wait with
    | .entryDone => a.direction = .read ∧ s.waiters = 1 ∧ s.nonPosted = 0
    | .freeEntry => False
    | .queueEmpty => a.direction = .read ∧ s.waiters = 0 ∧ s.nonPosted = 0 ∧ s.wq.entries ≠ []
    | .queueSpace => a.direction ≠ .read ∧ s.waiters = 0 ∧ s.nonPosted = 0 ∧ s.wq.entries.length = 8
    | .entryRemoved =>
      a.direction ≠ .read ∧ s.waiters = 0 ∧ s.nonPosted = 1 ∧
        ∃ y, s.wq.entries.getLast? = some y ∧ y.posted = false ∧ y.closed = true

/-- The agreement of a read entry with its waiter (R26): a WORD entry has its waiter, a LINE entry has one exactly when its
purpose is DEMAND, and the pending access is for what the entry asks; at most two entries have none (R28). -/
def State.WaiterLaw (s : State) : Prop :=
  (∀ (t : Fin 4) (w : ReadWork), (s.reads.entries[t]).work = some w →
    (w.waiter = true → ∃ a, s.bus.access = some a ∧ w.request.block = lineOf a.remote) ∧
      match w.request with
      | .line _ p _ => (w.waiter = true ↔ p = .demand)
      | .word addr size => w.waiter = true ∧ ∃ a, s.bus.access = some a ∧ a.remote = addr ∧ a.size = size) ∧
  s.unwaited ≤ 2

/-- While the reset input is asserted the link is DOWN and the transmitter FREE (R91, R104). -/
def State.ResetLaw (s : State) : Prop :=
  s.pins.resetAsserted = true → s.link.state = .down ∧ s.link.tx = .free

/-- The laws that stand together: each is kept by every step because the others hold. -/
structure State.Laws (s : State) : Prop where
  order : s.OrderLaw
  unique : s.UniqueLaw
  fill : s.FillLaw
  sweep : s.SweepLaw
  queue : s.QueueLaw
  entries : s.EntryLaw
  windows : s.WindowLaw
  link : s.LinkLaw
  records : s.RecordLaw
  send : s.SendLaw
  timers : s.TimerLaw
  bus : s.BusLaw
  waiters : s.WaiterLaw
  transmitter : s.TransmitterLaw
  reset : s.ResetLaw

/-! ## What the statements say of a cycle on the local bus -/

/-- The commands that are cycles on the local bus (R127, R167, R168). -/
def isBusCycle : Instr → Bool
  | .apertureRead _ | .apertureWrite _ _ | .indexWrite _ | .dataWrongWidth _ | .registerWrite _ | .windowFieldWrite _ _
  | .interruptFlagClear _ | .interruptEnableWrite _ | .join | .stop | .softReset | .sweep | .sync | .popRecord
  | .invalidateLine | .enableWindow | .disableWindow | .clearCounters | .clearOverflow | .unknownCommand _
  | .dataRead => true
  | .resetInput _ | .resetDeassertion | .readResumesFreeEntry | .writeResumesQueueSpace | .orderedReadDispatch
  | .welcome _ | .lineData _ _ _ _ | .wordData _ _ _ _ | .writeAck _ _ _ | .syncAck _ | .notice _ _ | .tick _
  | .restart | .corruptFrame _ | .frameWhileDown _ | .transmissionEnd | .responseTimerExpiry _ | .writeTimerExpiry
  | .syncTimerExpiry | .joinTimerExpiry | .quietTimerExpiry | .sweepStep => false

/-- The command that is the arrival of an intact frame (R105, R176). -/
def arrivalOf : InFrame → Instr
  | .welcome first => .welcome first
  | .lineData tag issue status data => .lineData tag issue status data
  | .wordData tag issue status data => .wordData tag issue status data
  | .writeAck seq status total => .writeAck seq status total
  | .syncAck issue => .syncAck issue
  | .notice seq line => .notice seq line
  | .tick next => .tick next
  | .restart => .restart

/-- The local bus can carry a cycle to the bridge: no access is pending (R126) and the reset input is not asserted (R127). -/
def State.CanCycle (s : State) : Prop :=
  s.bus.access = none ∧ s.pins.resetAsserted = false

/-- The bus interface after a DATA write (R168): the index has moved on if auto-increment is set, and the cycle has ended with
ready (log 12). -/
def BusInterface.afterDataWrite (b : BusInterface) : BusInterface :=
  { b with access := none, lastEnd := some (.write false),
           index := if b.autoIncrement then b.index + 1#7 else b.index }

/-- The bus interface after a read cycle has ended (R131). -/
def BusInterface.afterRead (b : BusInterface) (data : BitVec 32) (busError : Bool) : BusInterface :=
  { b with access := none, lastEnd := some (.read data busError) }

/-- The bus interface after a write cycle has ended (R131). -/
def BusInterface.afterWrite (b : BusInterface) (busError : Bool) : BusInterface :=
  { b with access := none, lastEnd := some (.write busError) }

/-- An access passes the four checks of R127 and matches window i (R119): naturally aligned, the link UP, i the
lowest-numbered enabled window that contains the offset, and a write's window without READ_ONLY. -/
structure State.Passes (s : State) (offset : Offset) (size : Size) (isWrite : Bool) (i : Fin 8) : Prop where
  aligned : offset.toNat % sizeBytes size = 0
  up : s.link.state = .up
  enabled : (s.windows[i]).enabled = true
  above : (s.windows[i]).localBase ≤ offset.toNat
  below : offset.toNat < (s.windows[i]).localBase + (s.windows[i]).size
  lowest : ∀ j : Fin 8, j < i → (s.windows[j]).enabled = true →
    ¬ ((s.windows[j]).localBase ≤ offset.toNat ∧ offset.toNat < (s.windows[j]).localBase + (s.windows[j]).size)
  writable : isWrite = true → (s.windows[i]).attrs.readOnly = false

/-- A cycle is refused at its presentation with a record of this body: the first check of R127 that fails (R128, R129,
R130). -/
def State.TurnsAway (s : State) (c : Cycle) (isWrite : Bool) (body : RecordBody) : Prop :=
  ((presented c).size = none ∧ body = .misaligned (presented c).offset) ∨
  ∃ size, (presented c).size = some size ∧
    (((presented c).offset.toNat % sizeBytes size ≠ 0 ∧ body = .misaligned (presented c).offset) ∨
      ((presented c).offset.toNat % sizeBytes size = 0 ∧ s.link.state ≠ .up ∧ body = .linkNotUp (presented c).offset) ∨
      ((presented c).offset.toNat % sizeBytes size = 0 ∧ s.link.state = .up ∧
        (∀ i : Fin 8, (s.windows[i]).enabled = true → ¬ ((s.windows[i]).localBase ≤ (presented c).offset.toNat ∧
          (presented c).offset.toNat < (s.windows[i]).localBase + (s.windows[i]).size)) ∧
        body = .unmapped (presented c).offset) ∨
      (isWrite = true ∧ ∃ i : Fin 8, s.Passes (presented c).offset size false i ∧ (s.windows[i]).attrs.readOnly = true ∧
        body = .readOnlyWrite i (presented c).offset
          (BitVec.ofNat 28 ((s.windows[i]).remoteBase + ((presented c).offset.toNat - (s.windows[i]).localBase)))))

/-- The pending-access record that a match fills (R120, R126). -/
def State.accessOf (s : State) (offset : Offset) (size : Size) (direction : Direction) (i : Fin 8) (wait : Wait) : Access :=
  { direction := direction, offset := offset, size := size, window := i,
    remote := BitVec.ofNat 28 ((s.windows[i]).remoteBase + (offset.toNat - (s.windows[i]).localBase)),
    attrs := (s.windows[i]).attrs, limit := (s.windows[i]).remoteBase + (s.windows[i]).size, wait := wait }

/-! ## What the statements say of a set -/

/-- A set with one way INVALID and at the back, the others in their relative order (R3, R12, R13, R14). -/
def CacheSet.withDropped (c : CacheSet) (w : Fin 4) : CacheSet :=
  { ways := c.ways.set w.val .invalid w.isLt, order := c.order.filter (fun v => v != w) ++ [w] }

/-- A set with one way in a given state and at the front, the others in their relative order (R3, R9, R11). -/
def CacheSet.withFront (c : CacheSet) (w : Fin 4) (x : Way) : CacheSet :=
  { ways := c.ways.set w.val x w.isLt, order := w :: c.order.filter (fun v => v != w) }

/-- The victim of R8: the way that stands last in the recency order among those not FILLING. -/
def CacheSet.lastNotFilling (c : CacheSet) : Option (Fin 4) :=
  (c.order.filter fun w => !(c.ways[w]).isFilling).getLast?

/-- No way of a line's set matches the line (R4). -/
def Directory.Misses (d : Directory) (a : LineAddr) : Prop :=
  ∀ w : Fin 4, ((d.get (setOf a)).ways[w]).tag? ≠ some (tagOf a)

/-- The directory with one set replaced. -/
def Directory.withSet (d : Directory) (i : SetIndex) (c : CacheSet) : Directory :=
  { d with sets := d.sets.set i.toNat c i.isLt }

/-- Whether a response to a request returns the byte at an offset of its block (R34): a LINE every byte, a WORD those of the
naturally aligned four-byte group that holds its address. -/
def Request.returns (k : Nat) : Request → Bool
  | .line _ _ _ => true
  | .word addr _ => k / 4 == (byteOffset addr).toNat / 4

/-- A request without a target way (R13, R42). -/
def Request.wayless : Request → Request
  | .line addr purpose _ => .line addr purpose none
  | .word addr size => .word addr size

/-- The read table with one entry replaced. -/
def ReadTable.withEntry (r : ReadTable) (tag : Fin 4) (e : ReadEntry) : ReadTable :=
  { r with entries := r.entries.set tag.val e tag.isLt }

/-- The read table with an entry taken (R28): OUTSTANDING with its work, issue number and retries 0, the timer stopped, the
fill buffer kept, and its tag at the tail of the send list. -/
def ReadTable.withTaken (r : ReadTable) (tag : Fin 4) (work : ReadWork) : ReadTable :=
  let e : ReadEntry := r.entries[tag]
  { entries := (r.withEntry tag { e with work := some work, issue := 0#2, retries := 0#3, timer := .stopped }).entries
    sendList := r.sendList ++ [tag] }

/-- The lowest-numbered FREE entry (R28). -/
def ReadTable.LowestFree (r : ReadTable) (tag : Fin 4) : Prop :=
  (r.entries[tag]).work = none ∧ ∀ u : Fin 4, u < tag → (r.entries[u]).work ≠ none

/-- The read table with the target way of one entry removed, its other fields as they were (R13, R42). -/
def ReadTable.withoutTarget (r : ReadTable) (tag : Fin 4) : ReadTable :=
  let e : ReadEntry := r.entries[tag]
  let work : Option ReadWork := e.work.map fun w => { w with request := w.request.wayless }
  r.withEntry tag { e with work := work }

/-- The state after a LINE entry is taken for a line, with the victim it is offered claimed for it: none while a sweep runs or
HOLD is set (R5, R8, R9, R20, R29, R32). -/
def State.withLineTaken (s : State) (tag : Fin 4) (a : LineAddr) (purpose : Purpose) (window : Fin 8) (waiter : Bool) :
    State :=
  let victim : Option (Fin 4) :=
    if s.sweep.isRunning || s.dir.hold then none else (s.dir.get (setOf a)).lastNotFilling
  { s with
    reads := s.reads.withTaken tag
      { request := .line a purpose (victim.map fun w => ⟨setOf a, w⟩)
        window := window, phase := .awaiting, waiter := waiter }
    dir :=
      match victim with
      | some w => s.dir.withSet (setOf a) ((s.dir.get (setOf a)).withFront w (.filling (tagOf a) tag))
      | none => s.dir }

/-- The state after a WORD entry is taken for an access (R29, R136), which waits on it. -/
def State.withWordTaken (s : State) (tag : Fin 4) (a : Access) : State :=
  { s with
    reads := s.reads.withTaken tag
      { request := .word a.remote a.size, window := a.window, phase := .awaiting, waiter := true }
    bus := { s.bus with access := some { a with wait := .entryDone } } }

/-- The state after a read has joined the entry of a FILLING way (R7, R30, R134). -/
def State.withJoined (s : State) (ref : Fin 4) (w : ReadWork) (target : Option Target) (a : Access) : State :=
  { s with
    reads := s.reads.withEntry ref
      { s.reads.entries[ref] with
        work := some { w with request := .line (lineOf a.remote) .demand target, window := a.window, waiter := true } }
    bus := { s.bus with access := some { a with wait := .entryDone } } }

/-- The state after a read has hit a VALID way (R6, R133). -/
def State.withHit (s : State) (w : Fin 4) (data : Line) (a : Access) : State :=
  { s with
    dir := s.dir.withSet (setOf (lineOf a.remote)) ((s.dir.get (setOf (lineOf a.remote))).withFront w
      (.valid (tagOf (lineOf a.remote)) data))
    bus := s.bus.afterRead (valueAt data (byteOffset a.remote) a.size) false }

/-- The entry that an append makes (R50, R52): closed when it is not posted. -/
def Access.appended (a : Access) (data : BitVec 32) : WriteEntry :=
  { block := lineOf a.remote, bytes := placeBytes (byteOffset a.remote) a.size data,
    posted := a.attrs.posted && !a.attrs.ordered, closed := !(a.attrs.posted && !a.attrs.ordered), window := a.window,
    state := .queued, mark := false }

/-- The state after a write has been appended, before the directory sees it (R52, R139, R140). -/
def State.withAppended (s : State) (a : Access) (data : BitVec 32) : State :=
  { s with
    wq := { s.wq with entries := s.wq.entries ++ [a.appended data] }
    bus :=
      if a.attrs.posted && !a.attrs.ordered then s.bus.afterWrite false
      else { s.bus with access := some { a with wait := .entryRemoved } } }

/-- The youngest entry takes a write of an access by merging (R51). -/
def WriteEntry.Takes (y : WriteEntry) (a : Access) : Prop :=
  y.block = lineOf a.remote ∧ y.state = .queued ∧ y.posted = true ∧ y.closed = false ∧
    a.attrs.posted = true ∧ a.attrs.ordered = false

/-! ## What the statements say of resets, teardown and failures -/

/-- What both resets leave (the right column of R175): every item but the kept ones of the left column, the command status, the
pins and the last cycle's end. -/
structure State.Cleared (t : State) : Prop where
  sets : ∀ i : SetIndex, t.dir.get i = { ways := Vector.replicate 4 .invalid, order := [0, 1, 2, 3] }
  entries : ∀ tag : Fin 4, (t.reads.entries[tag]).work = none ∧ (t.reads.entries[tag]).issue = 0#2 ∧
    (t.reads.entries[tag]).retries = 0#3 ∧ (t.reads.entries[tag]).timer = .stopped
  sendList : t.reads.sendList = []
  queue : t.wq = { entries := [], nws := 0#8, rt := 0#8, lastAssigned := none, timer := .stopped, replayCount := 0#3 }
  linkState : t.link.state = .down
  joinPending : t.link.joinPending = false
  joinTimer : t.link.joinTimer = .stopped
  joinRetries : t.link.joinRetries = 0#3
  quietTimer : t.link.quietTimer = .stopped
  lastCause : t.link.lastCause = none
  transmitter : t.link.tx = .free
  expected : t.notices.expected = 0#8
  sweepState : t.sweep.isRunning = false
  sweepPosition : t.sweep.position = 0
  sync : t.sync = { state := .idle, mark := .none, through := none, issue := 0#2, retries := 0#3, timer := .stopped }
  records : t.records = { list := [], overflow := 0#8 }
  counters : t.counters = { hits := 0#16, misses := 0#16, noticesApplied := 0#16, staleFrames := 0#16,
                            corruptFrames := 0#16, readResends := 0#16, writeReplays := 0#16 }
  flags : t.irq.flags = { record := false, link := false, sync := false, sweep := false }
  selections : t.sel = { inspSet := 0#8, inspWay := 0, readEntry := 0, queuePos := 0, window := 0 }
  windowArg : t.cmd.windowArg = 0
  remoteArg : t.cmd.remoteArg = 0#28
  access : t.bus.access = none
  interrupt : t.interruptOutput = false

/-- A barrier that teardown takes to FAILED (R152). -/
def SyncUnit.fails (u : SyncUnit) : Bool :=
  u.state == .pending || u.state == .sent || (u.state == .done && u.mark == .sent)

/-- What teardown does to every block but the link controller (R98, R44, R67, R152, R143, R81, R82), and what it leaves as it
was. In the directory every FILLING way is INVALID and behind the other ways of its set (R12), VALID and INVALID ways stay
what they were and keep their relative order; which of several FILLING ways of a set goes first is left open here (log
10). -/
structure State.TornDown (s t : State) : Prop where
  entries : ∀ tag : Fin 4, (t.reads.entries[tag]).work = none ∧
    (t.reads.entries[tag]).issue = (s.reads.entries[tag]).issue ∧
    (t.reads.entries[tag]).retries = (s.reads.entries[tag]).retries ∧
    ((s.reads.entries[tag]).work.isSome = true → (t.reads.entries[tag]).timer = .stopped)
  sendList : t.reads.sendList = []
  queue : t.wq = { s.wq with entries := [], timer := .stopped, replayCount := 0#3 }
  sync : t.sync = { s.sync with timer := .stopped, state := if s.sync.fails then .failed else s.sync.state }
  syncFlag : t.irq.flags.sync = (s.irq.flags.sync || s.sync.fails)
  ways : ∀ (i : SetIndex) (w : Fin 4), (t.dir.get i).ways[w] =
    if ((s.dir.get i).ways[w]).isFilling then .invalid else (s.dir.get i).ways[w]
  order : ∀ i : SetIndex, ∃ back : List (Fin 4),
    (t.dir.get i).order = ((s.dir.get i).order.filter fun w => !((s.dir.get i).ways[w]).isFilling) ++ back ∧
      back.Perm ((List.finRange 4).filter fun w => ((s.dir.get i).ways[w]).isFilling)
  sweep : t.sweep = if s.sweep.isRunning then s.sweep else .running 0#8
  hold : t.dir.hold = s.dir.hold
  windows : t.windows = s.windows
  notices : t.notices = s.notices
  counters : t.counters = s.counters
  settings : t.settings = s.settings
  sel : t.sel = s.sel
  enables : t.irq.enables = s.irq.enables
  sweepFlag : t.irq.flags.sweep = s.irq.flags.sweep
  pins : t.pins = s.pins

/-- What a failure from UP with a cause leaves (R97, R98, R99, R100): the teardown, the LINK_FAILED record with the count of
discarded writes, the LINK flag, and the link FAILED, or JOINING with a JOIN pending or taken under AUTO_REJOIN. -/
structure State.FailedFromUp (cause : Cause) (s t : State) : Prop where
  torn : State.TornDown s t
  access : t.bus =
    match s.bus.access with
    | none => s.bus
    | some a =>
      match a.direction with
      | .read => s.bus.afterRead (onesOf a.size) s.bus.berrEn
      | .write _ => s.bus.afterWrite s.bus.berrEn
  records : t.records =
    (State.handRecord ⟨.linkFailed cause (BitVec.ofNat 4 s.wq.entries.length), 1#8⟩ s).records
  recordFlag : t.irq.flags.record =
    (State.handRecord ⟨.linkFailed cause (BitVec.ofNat 4 s.wq.entries.length), 1#8⟩ s).irq.flags.record
  linkFlag : t.irq.flags.link = true
  command : t.cmd = s.cmd
  rests : s.link.autoRejoin = false →
    t.link = { s.link with state := .failed, lastCause := some cause, quietTimer := .stopped, joinPending := false,
                           joinTimer := .stopped }
  rejoinsLater : s.link.autoRejoin = true → ∀ f, s.link.tx = .sending f →
    t.link = { s.link with state := .joining, lastCause := some cause, quietTimer := .stopped, joinPending := true,
                           joinRetries := 0#3, joinTimer := .stopped }
  rejoinsNow : s.link.autoRejoin = true → s.link.tx = .free →
    t.link = { s.link with state := .joining, lastCause := some cause, quietTimer := .stopped, joinPending := false,
                           joinRetries := 0#3, joinTimer := .running ((s.settings.t.toNat + 1) * 32),
                           tx := .sending (.join s.link.boardNumber 3#8) }

end Sys2Proof.Machine
end

