-- ==== Sys2Proof/Certificates/Slice0/Obligations.lean ====
section
/-! DEFINITION. The statements for the provers. Each docstring names the rules of spec/ it rests on, and the log entry where a
clause rests on a choice of the model. -/

open Sys2Proof Sys2Proof.Machine

/-! ## The machine -/

/-- A step runs the command at the front of the queue on the state with the queue's rest (the model's own queue, log 1). -/
def Obligations.StepRunsFrontCommand : Prop :=
  ∀ (c : Instr) (s : State), step { s with pending := c :: s.pending } = exec c s

/-- Every command has a next state in every state; it leaves the model's own queue of waiting commands (log 1) as it was, and
every command but RESET_INPUT and RESET_DEASSERTION leaves the pins. That each event of the table is one step, whole and
indivisible, is the spec's (95_what_each_step_holds); that a command whose event cannot arise has a next state too is the
model's choice (log 5), and so is that a cycle on a held bus has one (log 8). -/
def Obligations.EveryCommandCompletes : Prop :=
  ∀ (c : Instr) (s : State), ∃ t, exec c s = .next t ∧ t.pending = s.pending ∧
    ((∀ straps, c ≠ .resetInput straps) → c ≠ .resetDeassertion → t.pins = s.pins)

/-- While an access is pending (R126) or the reset input is asserted (R127) no cycle of the local bus is taken. While the
reset input is asserted no frame is taken either (R105); a pending access keeps no frame out, and this says nothing of it.
The model leaves the state as it is (log 8). -/
def Obligations.NoCycleIsTakenOnAHeldBusAndNoFrameUnderReset : Prop :=
  ∀ s : State,
    (∀ c : Instr, isBusCycle c = true → (s.bus.access.isSome = true ∨ s.pins.resetAsserted = true) → exec c s = .next s) ∧
    (s.pins.resetAsserted = true →
      (∀ f : InFrame, exec (arrivalOf f) s = .next s) ∧
      ∀ bytes : List Byte, exec (.corruptFrame bytes) s = .next s ∧ exec (.frameWhileDown bytes) s = .next s)

/-! ## The reset input -/

/-- The assertion of the reset input, whatever the state (R24, R46, R68, R70, R90, R91, R92, R125, R144, R145, R155,
R161, R164, R167, R170, R172, R173). That the model's own queue of waiting commands (log 1) stays as it was is the
model's choice, and no rule of the spec's. A RESET_INPUT while the reset input is already asserted is read as the straps
being copied again (R92; log 3). -/
def Obligations.ResetInputClearsEveryBlock : Prop :=
  ∀ (straps : BitVec 4) (s : State), ∃ t, exec (.resetInput straps) s = .next t ∧ t.Cleared ∧
    t.pins.resetAsserted = true ∧ t.link.boardNumber = straps ∧ t.link.autoRejoin = false ∧
    t.dir.hold = false ∧ t.bus.index = 0#7 ∧ t.bus.autoIncrement = false ∧ t.bus.berrEn = true ∧
    (∀ i : Fin 8, t.windows[i] =
      { enabled := false, localPage := 0#14, sizeCode := 0#4, remotePage := 0#16,
        attrs := { cacheable := false, prefetch := false, posted := false, readOnly := false, ordered := false } }) ∧
    t.settings = { t := 15#7, retryLimit := 3#3, q := 8#8 } ∧
    t.irq.enables = { record := false, link := false, sync := false, sweep := false } ∧
    t.cmd.status = .none ∧ t.pending = s.pending

/-- The deassertion of the reset input fixes the board number at the straps' last level and changes nothing else (R92). That
a deassertion without an assertion changes nothing is the model's (log 5); that State.reset is the machine after
RESET_INPUT with straps 0 and RESET_DEASSERTION is log 3. -/
def Obligations.DeassertionLatchesStraps : Prop :=
  (∀ s : State,
    exec .resetDeassertion s =
      .next (if s.pins.resetAsserted then
        { s with pins := { s.pins with resetAsserted := false }, link := { s.link with boardNumber := s.pins.straps } }
      else s)) ∧
  ∃ t, exec (.resetInput 0#4) State.reset = .next t ∧ exec .resetDeassertion t = .next State.reset

/-- The reset column of the register window (R178), with the straps at the model's 0 (log 3). -/
def Obligations.RegisterResetColumn : Prop :=
  ∀ i : BitVec 7, State.reset.readRegister i =
    if i = 0x00#7 then 0x5E1A#16
    else if i = 0x01#7 then 0x0003#16
    else if i = 0x08#7 then 0x030F#16
    else if i = 0x09#7 then 0x0008#16
    else if i = 0x0A#7 then 0x0002#16
    else 0x0000#16

/-- The machine right after reset obeys every law (R3, R4, R10, R85, R47, R48, R91, R116, R155, R27, R126, R26, R102). -/
def Obligations.ResetObeysTheLaws : Prop :=
  State.reset.Laws

/-! ## Invariants of every step -/

/-- The law of the record queue is kept by every step (R155): at most 8 records, each count in 1 to 255. -/
def Obligations.RecordLawKept : Prop :=
  ∀ s t : State, s.RecordLaw → step s = .next t → t.RecordLaw

/-- The law of the directory's order is kept by every step (R3). -/
def Obligations.OrderLawKept : Prop :=
  ∀ s t : State, s.OrderLaw → step s = .next t → t.OrderLaw

/-- The law of the queue's shape is kept by every step from a state that also obeys the link law (R48, R91): at most 8
entries, every SENT entry ahead of every QUEUED one, consecutive sequence numbers ending before NWS. The law of the write
entries is kept with it (R47, R48): the replay flags form an unbroken run at the back of the SENT entries, at most one entry
holds the mark flag, every entry carries at least one byte, and the mark entry and every non-posted entry are closed (R54,
R65). -/
def Obligations.QueueLawKept : Prop :=
  ∀ s t : State, s.QueueLaw → s.LinkLaw → step s = .next t → t.QueueLaw ∧ (s.EntryLaw → t.EntryLaw)

/-- The uniqueness law, the law of the fill reference and the law of the running sweep are kept by every step (R4, R10, R85). -/
def Obligations.DirectoryLawsKept : Prop :=
  ∀ s t : State, s.Laws → step s = .next t → t.UniqueLaw ∧ t.FillLaw ∧ t.SweepLaw

/-- The link law is kept by every step (R91, R98), with the timers that run exactly while they guard something (R39, R61,
R94, R107, R148). -/
def Obligations.LinkLawKept : Prop :=
  ∀ s t : State, s.Laws → step s = .next t → t.LinkLaw ∧ t.TimerLaw

/-- Every law of the bridge together is kept by every step: the directory's, the read table's, the write queue's and its
entries', the window table's, the link's, the record queue's, the transmitter's, the timers' and the bus interface's (R3, R4,
R10, R85, R47, R48, R113, R116, R91, R155, R27, R26, R28, R102, R126). That of the window table: every enabled entry meets
the three checks of ENABLE_WINDOW. -/
def Obligations.EveryLawKept : Prop :=
  ∀ s t : State, s.Laws → step s = .next t → t.Laws

/-! ## Frames and lanes -/

/-- The bytes of an inbound frame read back as the frame, every field at every value. The receiver refuses bytes that
fail the CRC, whose first byte is none of the eight inbound kinds, or whose length is not their kind's (R105, R176,
R177); and it reads bytes that pass its three checks by R176's table, whatever their ignored bits hold: tag in bits 1..0
and issue in bits 3..2 of their byte, status in bits 1..0, a line address least significant byte first without bit 7 of
its third byte. -/
def Obligations.InboundFramesReadBackAndOthersAreRefused : Prop :=
  (∀ f : InFrame, Frames.parse (Frames.inBytes f) = some f) ∧
  (∀ bytes : List Byte, Frames.crc bytes ≠ 0#16 → Frames.parse bytes = none) ∧
  (∀ (k : Byte) (rest : List Byte),
    (k.toNat, (k :: rest).length) ∉
      [(0x20, 4), (0x21, 37), (0x22, 9), (0x23, 6), (0x24, 4), (0x25, 7), (0x26, 4), (0x27, 3)] →
    Frames.parse (k :: rest) = none) ∧
  ∀ (x y z u v c d : Byte) (line : Line) (group : Vector Byte 4) (tag : Fin 4) (issue : Issue) (status : Status),
    tag.val = x.toNat % 4 → issue.toNat = x.toNat / 4 % 4 →
    status = (match y.toNat % 4 with | 0 => .ok | 1 => .duplicate | 2 => .noMemory | _ => .prot) →
    (Frames.crc [0x20#8, x, c, d] = 0#16 → Frames.parse [0x20#8, x, c, d] = some (.welcome x)) ∧
    (Frames.crc ([0x21#8, x, y] ++ line.toList ++ [c, d]) = 0#16 →
      Frames.parse ([0x21#8, x, y] ++ line.toList ++ [c, d]) = some (.lineData tag issue status line)) ∧
    (Frames.crc ([0x22#8, x, y] ++ group.toList ++ [c, d]) = 0#16 →
      Frames.parse ([0x22#8, x, y] ++ group.toList ++ [c, d]) = some (.wordData tag issue status group)) ∧
    (Frames.crc [0x23#8, x, y, z, c, d] = 0#16 →
      Frames.parse [0x23#8, x, y, z, c, d] = some (.writeAck x status z)) ∧
    (Frames.crc [0x24#8, x, c, d] = 0#16 →
      Frames.parse [0x24#8, x, c, d] = some (.syncAck (BitVec.ofNat 2 (x.toNat % 4)))) ∧
    (Frames.crc [0x25#8, x, z, u, v, c, d] = 0#16 →
      Frames.parse [0x25#8, x, z, u, v, c, d] =
        some (.notice x (BitVec.ofNat 23 (z.toNat + 0x100 * u.toNat + 0x10000 * (v.toNat % 0x80))))) ∧
    (Frames.crc [0x26#8, x, c, d] = 0#16 → Frames.parse [0x26#8, x, c, d] = some (.tick x)) ∧
    (Frames.crc [0x27#8, c, d] = 0#16 → Frames.parse [0x27#8, c, d] = some .restart)

/-- The outbound frames, byte by byte (R176): the kind code, each field at its place, least significant byte first, and two
CRC bytes, which make the whole check to 0; "123456789" gives 29B1H (R177). -/
def Obligations.OutboundFramesAreWellMade : Prop :=
  (∀ (board : BitVec 4) (rev : BitVec 8), ∃ c d : Byte,
    Frames.outBytes (.join board rev) = [0x10#8, BitVec.ofNat 8 board.toNat, rev, c, d]) ∧
  (∀ (tag : Fin 4) (issue : Issue) (a : LineAddr), ∃ c d : Byte,
    Frames.outBytes (.readLine tag issue a) =
      [0x11#8, BitVec.ofNat 8 (tag.val + 4 * issue.toNat), BitVec.ofNat 8 a.toNat, BitVec.ofNat 8 (a.toNat / 0x100),
        BitVec.ofNat 8 (a.toNat / 0x10000), c, d]) ∧
  (∀ (tag : Fin 4) (issue : Issue) (size : Size) (a : RemoteAddr), ∃ c d : Byte,
    Frames.outBytes (.readWord tag issue size a) =
      [0x12#8,
        BitVec.ofNat 8 (tag.val + 4 * issue.toNat + 16 * (match size with | .one => 0 | .two => 1 | .four => 2)),
        BitVec.ofNat 8 a.toNat, BitVec.ofNat 8 (a.toNat / 0x100), BitVec.ofNat 8 (a.toNat / 0x10000),
        BitVec.ofNat 8 (a.toNat / 0x1000000), c, d]) ∧
  (∀ (seq : Seq) (block : LineAddr) (mask : BitVec 32) (data : Line), ∃ c d : Byte,
    Frames.outBytes (.write seq block mask data) =
      [0x13#8, seq, BitVec.ofNat 8 block.toNat, BitVec.ofNat 8 (block.toNat / 0x100),
        BitVec.ofNat 8 (block.toNat / 0x10000), BitVec.ofNat 8 mask.toNat, BitVec.ofNat 8 (mask.toNat / 0x100),
        BitVec.ofNat 8 (mask.toNat / 0x10000), BitVec.ofNat 8 (mask.toNat / 0x1000000)] ++ data.toList ++ [c, d] ∧
    (Frames.outBytes (.write seq block mask data)).length = 43) ∧
  (∀ (issue : Issue) (u : Seq), ∃ c d : Byte,
    Frames.outBytes (.sync issue (some u)) = [0x14#8, BitVec.ofNat 8 issue.toNat, u, c, d]) ∧
  (∀ issue : Issue, ∃ c d : Byte,
    Frames.outBytes (.sync issue none) = [0x14#8, BitVec.ofNat 8 (0x80 + issue.toNat), 0#8, c, d]) ∧
  (∀ f : OutFrame, Frames.crc (Frames.outBytes f) = 0#16) ∧
  Frames.crc [0x31#8, 0x32#8, 0x33#8, 0x34#8, 0x35#8, 0x36#8, 0x37#8, 0x38#8, 0x39#8] = 0x29B1#16

/-- The parts of a remote address (R1): bits 4..0 are the byte offset, 27..5 the line address, 12..5 the set index,
27..13 the tag; and a line's first byte is at 32 times its line address. A size is 1, 2 or 4 bytes, and the all-ones
value of a read has FFH in each (R127, R131). The lane order (R127): the byte at the lowest offset is the least
significant of a value, written or read, and a write covers exactly the bytes of its size; a WRITE frame's mask and data
name exactly the bytes carried, with 0 elsewhere (R56); a merge gives a byte that both carry its new value (R51). -/
def Obligations.LanesFollowOffsetsAndAddressPartsTheirBits : Prop :=
  (∀ a : RemoteAddr,
    (byteOffset a).toNat = a.toNat % 0x20 ∧ (lineOf a).toNat = a.toNat / 0x20 ∧
      (setOf (lineOf a)).toNat = a.toNat / 0x20 % 0x100 ∧ (tagOf (lineOf a)).toNat = a.toNat / 0x2000) ∧
  (∀ l : LineAddr, (baseOf l).toNat = l.toNat * 0x20) ∧
  sizeBytes .one = 1 ∧ sizeBytes .two = 2 ∧ sizeBytes .four = 4 ∧
  onesOf .one = 0xFF#32 ∧ onesOf .two = 0xFFFF#32 ∧ onesOf .four = 0xFFFFFFFF#32 ∧
  (∀ (buf : Line) (offset : BitVec 5) (size : Size) (i : Nat) (h : offset.toNat + i < 32), i < sizeBytes size →
    offset.toNat + sizeBytes size ≤ 32 →
    (valueAt buf offset size).extractLsb' (8 * i) 8 = buf[offset.toNat + i]) ∧
  (∀ (offset : BitVec 5) (size : Size) (data : BitVec 32) (k : Nat) (h : k < 32),
    offset.toNat + sizeBytes size ≤ 32 →
    (placeBytes offset size data)[k] =
      if offset.toNat ≤ k ∧ k < offset.toNat + sizeBytes size then
        some (data.extractLsb' (8 * (k - offset.toNat)) 8)
      else none) ∧
  (∀ (bytes : MaskedLine) (k : Nat) (h : k < 32),
    (maskOf bytes).getLsbD k = (bytes[k]).isSome ∧ (dataOf bytes)[k] = (bytes[k]).getD 0#8) ∧
  (∀ (older newer : MaskedLine) (k : Nat) (h : k < 32),
    (mergeBytes older newer)[k] = if (newer[k]).isSome then newer[k] else older[k])

/-- The overlay (R35): each byte of the buffer is replaced by the youngest write entry for the block that carries it, QUEUED
or SENT, and stays as returned where none does; for a WORD only the bytes of the returned four-byte group are laid over. -/
def Obligations.OverlayTakesTheYoungestByte : Prop :=
  ∀ (request : Request) (entries : List WriteEntry) (buffer : Line) (k : Nat) (h : k < 32),
    (overlayQueue request entries buffer)[k] =
      ((entries.reverse.findSome? fun e =>
        if e.block = request.block ∧ request.returns k = true then e.bytes[k] else none).getD buffer[k])

/-! ## The register window -/

/-- The cycles of the INDEX port, of 8, 16 and 32 bits (R167): a write takes bits 6..0 of its low byte as the index and bit 7
as auto-increment, and ignores its other bytes; a read returns the index in bits 6..0, auto-increment in bit 7 and 0 in
the other bytes; nothing else changes. The row INDEX_WRITE stands for the reads by the model's choice (log 14). The
cycle's end is held in the bus interface by the model's choice (log 12). -/
def Obligations.IndexCyclesWriteAndRead : Prop :=
  ∀ s : State, s.CanCycle →
    (∀ v : BitVec 8, exec (.indexWrite (.write8 v)) s =
      .next { s with bus := { s.bus.afterWrite false with index := v.extractLsb' 0 7, autoIncrement := v.getLsbD 7 } }) ∧
    (∀ v : BitVec 16, exec (.indexWrite (.write16 v)) s =
      .next { s with bus := { s.bus.afterWrite false with index := v.extractLsb' 0 7, autoIncrement := v.getLsbD 7 } }) ∧
    (∀ v : BitVec 32, exec (.indexWrite (.write32 v)) s =
      .next { s with bus := { s.bus.afterWrite false with index := v.extractLsb' 0 7, autoIncrement := v.getLsbD 7 } }) ∧
    ∀ c : IndexCycle, c = .read8 ∨ c = .read16 ∨ c = .read32 →
      exec (.indexWrite c) s =
        .next { s with bus :=
          s.bus.afterRead (BitVec.ofNat 32 (s.bus.index.toNat + if s.bus.autoIncrement then 0x80 else 0)) false }

/-- A DATA read returns the value of the register the index selects, the index moves on under auto-increment, 0 after 127,
and nothing else changes: reads change no state (R168, R169, R22, R45, R69, R160). A DATA-port access of 8 or 32 bits
reaches no register and leaves the index: a read returns all ones, a write is ignored, and neither ends with bus error
(R168). The cycle's end is held in the bus interface by the model's choice (log 12). -/
def Obligations.DataPortCyclesEnd : Prop :=
  ∀ s : State, s.CanCycle →
    exec (.dataWrongWidth .read8) s = .next { s with bus := s.bus.afterRead 0xFF#32 false } ∧
    exec (.dataWrongWidth .read32) s = .next { s with bus := s.bus.afterRead 0xFFFFFFFF#32 false } ∧
    (∀ v, exec (.dataWrongWidth (.write8 v)) s = .next { s with bus := s.bus.afterWrite false }) ∧
    (∀ v, exec (.dataWrongWidth (.write32 v)) s = .next { s with bus := s.bus.afterWrite false }) ∧
    exec .dataRead s =
      .next { s with bus :=
        { s.bus.afterRead (0#16 ++ s.readRegister s.bus.index) false with
          index := BitVec.ofNat 7 ((s.bus.index.toNat + if s.bus.autoIncrement then 1 else 0) % 128) } }

/-- What the status, selection and window registers show (R178): each named field at its place, a named value by its
number of the code table, the fields of the selected window entry (R115) and the selections (R22, R45, R69) among them,
and 0 at every unimplemented index (R169). A window's bases and size are what its fields stand for (R113). The records
held are at most 8 (R155), and a queue holds at most 8 entries (R48). The registers of a selected way, read entry, write
entry and record are InspectionShowsTheSelection's. -/
def Obligations.StatusRegistersShowTheirFields : Prop :=
  ∀ s : State, s.RecordLaw → s.QueueLaw →
    s.readRegister 0x00#7 = 0x5E1A#16 ∧ s.readRegister 0x01#7 = 0x0003#16 ∧
    s.readRegister 0x02#7 = 0#12 ++ s.link.boardNumber ∧
    s.readRegister 0x03#7 = 0#16 ∧
    s.readRegister 0x04#7 = 0#13 ++
      (match s.cmd.status with
       | .none => 0#3 | .done => 1#3 | .busy => 2#3 | .wrongState => 3#3 | .empty => 4#3 | .badArgument => 5#3
       | .noIdentity => 6#3) ∧
    s.readRegister 0x05#7 = 0#13 ++ BitVec.ofFin (w := 3) s.cmd.windowArg ∧
    s.readRegister 0x06#7 = s.cmd.remoteArg.extractLsb' 0 16 ∧
    s.readRegister 0x07#7 = 0#4 ++ s.cmd.remoteArg.extractLsb' 16 12 ∧
    s.readRegister 0x08#7 = 0#5 ++ s.settings.retryLimit ++ 0#1 ++ s.settings.t ∧
    s.readRegister 0x09#7 = 0#8 ++ s.settings.q ∧
    s.readRegister 0x0A#7 = 0#14 ++ BitVec.ofBool s.bus.berrEn ++ BitVec.ofBool s.link.autoRejoin ∧
    s.readRegister 0x0B#7 = 0#15 ++ BitVec.ofBool s.dir.hold ∧
    s.readRegister 0x0C#7 = 0#12 ++ BitVec.ofBool s.irq.enables.sweep ++ BitVec.ofBool s.irq.enables.sync ++
      BitVec.ofBool s.irq.enables.link ++ BitVec.ofBool s.irq.enables.record ∧
    s.readRegister 0x0D#7 = 0#12 ++ BitVec.ofBool s.irq.flags.sweep ++ BitVec.ofBool s.irq.flags.sync ++
      BitVec.ofBool s.irq.flags.link ++ BitVec.ofBool s.irq.flags.record ∧
    s.readRegister 0x10#7 = 0#5 ++
      (match s.link.lastCause with
       | none => 0#3 | some .readTimeout => 1#3 | some .writeTimeout => 2#3 | some .syncTimeout => 3#3
       | some .quiet => 4#3 | some .storeRestart => 5#3 | some .joinTimeout => 6#3) ++ 0#1 ++ s.link.joinRetries ++ 0#2 ++
      (match s.link.state with
       | .down => 0#2 | .joining => 1#2 | .up => 2#2 | .failed => 3#2) ∧
    s.readRegister 0x11#7 = 0#8 ++ s.notices.expected ∧
    s.readRegister 0x12#7 = BitVec.ofBool s.sweep.isRunning ++ 0#6 ++ BitVec.ofNat 9 s.sweep.position ∧
    s.readRegister 0x13#7 = 0#1 ++ s.sync.retries ++ 0#2 ++ s.sync.issue ++ 0#2 ++
      (match s.sync.mark with
       | .none => 0#2 | .waiting => 1#2 | .sent => 2#2 | .gone => 3#2) ++ 0#1 ++
      (match s.sync.state with
       | .idle => 0#3 | .pending => 1#3 | .sent => 2#3 | .done => 3#3 | .failed => 4#3) ∧
    s.readRegister 0x14#7 = BitVec.ofBool s.sync.through.isSome ++ 0#7 ++ s.sync.through.getD 0#8 ∧
    s.readRegister 0x18#7 = 0#1 ++ s.wq.replayCount ++ BitVec.ofNat 4 (s.wq.entries.countP WriteEntry.isReplay) ++
      BitVec.ofNat 4 (s.wq.entries.countP WriteEntry.isSent) ++ BitVec.ofNat 4 s.wq.entries.length ∧
    s.readRegister 0x19#7 = s.wq.rt ++ s.wq.nws ∧
    s.readRegister 0x1A#7 = BitVec.ofBool s.wq.lastAssigned.isSome ++ 0#7 ++ s.wq.lastAssigned.getD 0#8 ∧
    s.readRegister 0x40#7 = s.records.overflow ++ 0#4 ++ BitVec.ofNat 4 s.records.list.length ∧
    s.readRegister 0x50#7 = s.counters.hits ∧ s.readRegister 0x51#7 = s.counters.misses ∧
    s.readRegister 0x52#7 = s.counters.noticesApplied ∧ s.readRegister 0x53#7 = s.counters.staleFrames ∧
    s.readRegister 0x54#7 = s.counters.corruptFrames ∧ s.readRegister 0x55#7 = s.counters.readResends ∧
    s.readRegister 0x56#7 = s.counters.writeReplays ∧
    s.readRegister 0x1B#7 = 0#13 ++ BitVec.ofFin (w := 3) s.sel.queuePos ∧
    s.readRegister 0x24#7 = 0#14 ++ BitVec.ofFin (w := 2) s.sel.readEntry ∧
    s.readRegister 0x2C#7 = 0#8 ++ s.sel.inspSet ∧
    s.readRegister 0x2D#7 = 0#14 ++ BitVec.ofFin (w := 2) s.sel.inspWay ∧
    s.readRegister 0x58#7 = 0#13 ++ BitVec.ofFin (w := 3) s.sel.window ∧
    s.readRegister 0x59#7 = 0#15 ++ BitVec.ofBool (s.windows[s.sel.window]).enabled ∧
    s.readRegister 0x5A#7 = BitVec.ofNat 16 ((s.windows[s.sel.window]).localBase % 0x10000) ∧
    s.readRegister 0x5B#7 = BitVec.ofNat 16 ((s.windows[s.sel.window]).localBase / 0x10000) ∧
    s.readRegister 0x5C#7 = 0#12 ++ (s.windows[s.sel.window]).sizeCode ∧
    s.readRegister 0x5D#7 = BitVec.ofNat 16 ((s.windows[s.sel.window]).remoteBase % 0x10000) ∧
    s.readRegister 0x5E#7 = BitVec.ofNat 16 ((s.windows[s.sel.window]).remoteBase / 0x10000) ∧
    s.readRegister 0x5F#7 = 0#11 ++ BitVec.ofBool (s.windows[s.sel.window]).attrs.ordered ++
      BitVec.ofBool (s.windows[s.sel.window]).attrs.readOnly ++ BitVec.ofBool (s.windows[s.sel.window]).attrs.posted ++
      BitVec.ofBool (s.windows[s.sel.window]).attrs.prefetch ++ BitVec.ofBool (s.windows[s.sel.window]).attrs.cacheable ∧
    (∀ w : Window, w.localBase = 0x1000 * w.localPage.toNat ∧ w.remoteBase = 0x1000 * w.remotePage.toNat ∧
      w.size = 0x1000 * 2 ^ w.sizeCode.toNat) ∧
    ∀ i : BitVec 7,
      i.toNat ∈ [0x0E, 0x0F, 0x15, 0x16, 0x17, 0x21, 0x22, 0x23, 0x29, 0x2A, 0x2B, 0x49, 0x4A, 0x4B, 0x4C, 0x4D, 0x4E, 0x4F,
        0x57] ∨ 0x60 ≤ i.toNat →
      s.readRegister i = 0#16

/-- What the inspection registers show of the selected way (R22), the selected read entry (R45), the write entry at the
selected position (R69) and the head record (R160), every item at its place and by its number of the code table (R178), a
record's items those its kind carries (R156). -/
def Obligations.InspectionShowsTheSelection : Prop :=
  (∀ s : State, s.OrderLaw →
    s.readRegister 0x2F#7 =
      (match (s.dir.get s.sel.inspSet).ways[s.sel.inspWay] with
       | .invalid => 0#16
       | .filling tag _ | .valid tag _ => 0#1 ++ tag) ∧
    (∃ p : BitVec 2, (s.dir.get s.sel.inspSet).order[p.toNat]? = some s.sel.inspWay ∧
      s.readRegister 0x2E#7 =
        match (s.dir.get s.sel.inspSet).ways[s.sel.inspWay] with
        | .invalid => 0#10 ++ p ++ 0#2 ++ 0#2
        | .filling _ ref => 0#6 ++ BitVec.ofFin (w := 2) ref ++ 0#2 ++ p ++ 0#2 ++ 1#2
        | .valid _ _ => 0#10 ++ p ++ 0#2 ++ 2#2) ∧
    ∀ (j : Nat) (h : 2 * j + 1 < 32), s.readRegister (BitVec.ofNat 7 (0x30 + j)) =
      match (s.dir.get s.sel.inspSet).ways[s.sel.inspWay] with
      | .valid _ data => data[2 * j + 1] ++ data[2 * j]
      | .invalid | .filling _ _ => 0#16) ∧
  (∀ (e : ReadEntry) (s : State), e = s.reads.entries[s.sel.readEntry] →
    (e.work = none →
      s.readRegister 0x25#7 = 0#3 ++ e.retries ++ e.issue ++ 0#8 ∧
      s.readRegister 0x26#7 = 0#16 ∧ s.readRegister 0x27#7 = 0#16 ∧ s.readRegister 0x28#7 = 0#16) ∧
    (∀ (k : ReadWork) (a : LineAddr) (p : Purpose) (x : Option Target), e.work = some k → k.request = .line a p x →
      s.readRegister 0x25#7 = 0#3 ++ e.retries ++ e.issue ++ BitVec.ofFin (w := 3) k.window ++ 0#1 ++
        BitVec.ofBool (k.phase = .awaiting) ++ BitVec.ofBool (p = .prefetch) ++ 0#1 ++ 1#1 ∧
      s.readRegister 0x26#7 = BitVec.ofNat 16 (a.toNat * 32) ∧
      s.readRegister 0x27#7 = BitVec.ofNat 16 (a.toNat * 32 / 0x10000) ∧
      s.readRegister 0x28#7 =
        match x with
        | some y => 1#1 ++ 0#5 ++ BitVec.ofFin (w := 2) y.way ++ y.set
        | none => 0#16) ∧
    ∀ (k : ReadWork) (a : RemoteAddr) (size : Size), e.work = some k → k.request = .word a size →
      s.readRegister 0x25#7 = BitVec.ofNat 3 (sizeBytes size) ++ e.retries ++ e.issue ++
        BitVec.ofFin (w := 3) k.window ++ 0#1 ++ BitVec.ofBool (k.phase = .awaiting) ++ 0#1 ++ 1#1 ++ 1#1 ∧
      s.readRegister 0x26#7 = BitVec.ofNat 16 a.toNat ∧ s.readRegister 0x27#7 = BitVec.ofNat 16 (a.toNat / 0x10000) ∧
      s.readRegister 0x28#7 = 0#16) ∧
  (∀ s : State,
    (s.wq.entries[s.sel.queuePos.val]? = none →
      ∀ k : Nat, 0x1C ≤ k → k ≤ 0x20 → s.readRegister (BitVec.ofNat 7 k) = 0#16) ∧
    ∀ e : WriteEntry, s.wq.entries[s.sel.queuePos.val]? = some e →
      s.readRegister 0x1C#7 =
        (match e.state with
         | .queued => 0#8
         | .sent q _ => q) ++ BitVec.ofFin (w := 3) e.window ++ BitVec.ofBool e.closed ++ BitVec.ofBool e.posted ++
        (match e.state with
         | .queued => 0#1 ++ 0#1
         | .sent _ replay => BitVec.ofBool replay ++ 1#1) ++ 1#1 ∧
      s.readRegister 0x1D#7 = BitVec.ofNat 16 (e.block.toNat * 32) ∧
      s.readRegister 0x1E#7 = BitVec.ofNat 16 (e.block.toNat * 32 / 0x10000) ∧
      ∀ (k : Nat) (h : k < 16), (s.readRegister 0x1F#7).getLsbD k = (e.bytes[k]).isSome ∧
        (s.readRegister 0x20#7).getLsbD k = (e.bytes[16 + k]).isSome) ∧
  ∀ s : State,
    (s.records.list = [] → ∀ k : Nat, 0x41 ≤ k → k ≤ 0x48 → s.readRegister (BitVec.ofNat 7 k) = 0#16) ∧
    ∀ (r : ErrorRecord) (rest : List ErrorRecord), s.records.list = r :: rest →
      s.readRegister 0x41#7 = r.count ++ 0#4 ++
        (match r.body with
         | .misaligned _ => 1#4 | .linkNotUp _ => 2#4 | .unmapped _ => 3#4 | .readOnlyWrite _ _ _ => 4#4
         | .readRefused _ _ => 5#4 | .writeRefused _ _ | .writeRefusedTotal => 6#4 | .noticeGap _ _ => 7#4
         | .linkFailed _ _ => 8#4) ∧
      s.readRegister 0x42#7 =
        (match r.body with
         | .misaligned _ | .linkNotUp _ | .unmapped _ => 0x0002#16
         | .readOnlyWrite window _ _ => 0#5 ++ BitVec.ofFin (w := 3) window ++ 0x07#8
         | .readRefused window _ | .writeRefused window _ => 0#5 ++ BitVec.ofFin (w := 3) window ++ 0x05#8
         | .noticeGap _ _ => 0x0008#16
         | .writeRefusedTotal | .linkFailed _ _ => 0x0000#16) ∧
      (∀ offset : Offset,
        offset =
          (match r.body with
           | .misaligned o | .linkNotUp o | .unmapped o | .readOnlyWrite _ o _ => o
           | .readRefused _ _ | .writeRefused _ _ | .writeRefusedTotal | .noticeGap _ _ | .linkFailed _ _ => 0#26) →
        s.readRegister 0x43#7 = offset.extractLsb' 0 16 ∧ s.readRegister 0x44#7 = 0#6 ++ offset.extractLsb' 16 10) ∧
      (∀ remote : RemoteAddr,
        remote =
          (match r.body with
           | .readOnlyWrite _ _ a | .readRefused _ a | .writeRefused _ a => a
           | .misaligned _ | .linkNotUp _ | .unmapped _ | .writeRefusedTotal | .noticeGap _ _ | .linkFailed _ _ => 0#28) →
        s.readRegister 0x45#7 = remote.extractLsb' 0 16 ∧ s.readRegister 0x46#7 = 0#4 ++ remote.extractLsb' 16 12) ∧
      s.readRegister 0x47#7 =
        (match r.body with
         | .noticeGap expected received => received ++ expected
         | .misaligned _ | .linkNotUp _ | .unmapped _ | .readOnlyWrite _ _ _ | .readRefused _ _ | .writeRefused _ _
         | .writeRefusedTotal | .linkFailed _ _ => 0#16) ∧
      s.readRegister 0x48#7 =
        match r.body with
        | .linkFailed cause discarded => 0#4 ++ discarded ++ 0#5 ++
          (match cause with
           | .readTimeout => 1#3 | .writeTimeout => 2#3 | .syncTimeout => 3#3 | .quiet => 4#3 | .storeRestart => 5#3
           | .joinTimeout => 6#3)
        | .misaligned _ | .linkNotUp _ | .unmapped _ | .readOnlyWrite _ _ _ | .readRefused _ _ | .writeRefused _ _
        | .writeRefusedTotal | .noticeGap _ _ => 0#16

/-- A DATA write to a setting, an argument or a selection register changes that item alone, and the cycle ends (R168, R169,
R170, R172, R178); a read-only or unimplemented index ignores it (R169). The cycle's end is held in the bus interface by
the model's choice (log 12). -/
def Obligations.RegisterWriteChangesItsItem : Prop :=
  ∀ (v : Half) (s : State), s.CanCycle →
    (s.bus.index = 0x05#7 → exec (.registerWrite v) s =
      .next { s with cmd := { s.cmd with windowArg := (v.extractLsb' 0 3).toFin }, bus := s.bus.afterDataWrite }) ∧
    (s.bus.index = 0x06#7 → exec (.registerWrite v) s =
      .next { s with cmd := { s.cmd with remoteArg := s.cmd.remoteArg.extractLsb' 16 12 ++ v },
                     bus := s.bus.afterDataWrite }) ∧
    (s.bus.index = 0x07#7 → exec (.registerWrite v) s =
      .next { s with cmd := { s.cmd with remoteArg := v.extractLsb' 0 12 ++ s.cmd.remoteArg.extractLsb' 0 16 },
                     bus := s.bus.afterDataWrite }) ∧
    (s.bus.index = 0x08#7 → exec (.registerWrite v) s =
      .next { s with settings := { s.settings with t := v.extractLsb' 0 7, retryLimit := v.extractLsb' 8 3 },
                     bus := s.bus.afterDataWrite }) ∧
    (s.bus.index = 0x09#7 → exec (.registerWrite v) s =
      .next { s with settings := { s.settings with q := v.extractLsb' 0 8 }, bus := s.bus.afterDataWrite }) ∧
    (s.bus.index = 0x0A#7 → exec (.registerWrite v) s =
      .next { s with link := { s.link with autoRejoin := v.getLsbD 0 },
                     bus := { s.bus.afterDataWrite with berrEn := v.getLsbD 1 } }) ∧
    (s.bus.index = 0x0B#7 → exec (.registerWrite v) s =
      .next { s with dir := { s.dir with hold := v.getLsbD 0 }, bus := s.bus.afterDataWrite }) ∧
    (s.bus.index = 0x1B#7 → exec (.registerWrite v) s =
      .next { s with sel := { s.sel with queuePos := (v.extractLsb' 0 3).toFin }, bus := s.bus.afterDataWrite }) ∧
    (s.bus.index = 0x24#7 → exec (.registerWrite v) s =
      .next { s with sel := { s.sel with readEntry := (v.extractLsb' 0 2).toFin }, bus := s.bus.afterDataWrite }) ∧
    (s.bus.index = 0x2C#7 → exec (.registerWrite v) s =
      .next { s with sel := { s.sel with inspSet := v.extractLsb' 0 8 }, bus := s.bus.afterDataWrite }) ∧
    (s.bus.index = 0x2D#7 → exec (.registerWrite v) s =
      .next { s with sel := { s.sel with inspWay := (v.extractLsb' 0 2).toFin }, bus := s.bus.afterDataWrite }) ∧
    (s.bus.index = 0x58#7 → exec (.registerWrite v) s =
      .next { s with sel := { s.sel with window := (v.extractLsb' 0 3).toFin }, bus := s.bus.afterDataWrite }) ∧
    (s.bus.index.toNat ∉ [0x03, 0x05, 0x06, 0x07, 0x08, 0x09, 0x0A, 0x0B, 0x0C, 0x0D, 0x1B, 0x24, 0x2C, 0x2D, 0x58, 0x5A,
        0x5B, 0x5C, 0x5D, 0x5E, 0x5F] →
      exec (.registerWrite v) s = .next { s with bus := s.bus.afterDataWrite })

/-- A DATA write to index 03H carries out the command whose code is written (R172, R178), as the command's own row does; a
DATA write to 0CH, 0DH or a window field does what that register's own row does (log 6, log 7). UNKNOWN_COMMAND with any
value does what a write of that value to 03H does (log 23). -/
def Obligations.RegisterWriteReachesTheRowOfItsIndex : Prop :=
  ∀ s : State,
    (s.bus.index = 0x03#7 →
      exec (.registerWrite 0x01#16) s = exec .join s ∧ exec (.registerWrite 0x02#16) s = exec .stop s ∧
      exec (.registerWrite 0x03#16) s = exec .softReset s ∧ exec (.registerWrite 0x04#16) s = exec .sweep s ∧
      exec (.registerWrite 0x05#16) s = exec .sync s ∧ exec (.registerWrite 0x06#16) s = exec .popRecord s ∧
      exec (.registerWrite 0x07#16) s = exec .invalidateLine s ∧ exec (.registerWrite 0x08#16) s = exec .enableWindow s ∧
      exec (.registerWrite 0x09#16) s = exec .disableWindow s ∧ exec (.registerWrite 0x0A#16) s = exec .clearCounters s ∧
      exec (.registerWrite 0x0B#16) s = exec .clearOverflow s ∧
      ∀ v : Half, exec (.registerWrite v) s = exec (.unknownCommand v) s) ∧
    ∀ v : Half,
      (s.bus.index = 0x0C#7 → exec (.registerWrite v) s = exec (.interruptEnableWrite v) s) ∧
      (s.bus.index = 0x0D#7 → exec (.registerWrite v) s = exec (.interruptFlagClear v) s) ∧
      (s.bus.index = 0x5A#7 → exec (.registerWrite v) s = exec (.windowFieldWrite .localLow v) s) ∧
      (s.bus.index = 0x5B#7 → exec (.registerWrite v) s = exec (.windowFieldWrite .localHigh v) s) ∧
      (s.bus.index = 0x5C#7 → exec (.registerWrite v) s = exec (.windowFieldWrite .sizeCode v) s) ∧
      (s.bus.index = 0x5D#7 → exec (.registerWrite v) s = exec (.windowFieldWrite .remoteLow v) s) ∧
      (s.bus.index = 0x5E#7 → exec (.registerWrite v) s = exec (.windowFieldWrite .remoteHigh v) s) ∧
      (s.bus.index = 0x5F#7 → exec (.registerWrite v) s = exec (.windowFieldWrite .attributes v) s)

/-- A field write to the selected window entry (R114): ignored while the entry is enabled; while it is disabled, the written
half of a base replaces that half, with bits 11..0 of the base 0, the size code keeps four bits and the attributes five
flags, and the other fields and entries stay. The cycle ends either way (R168, R169). The cycle's end is held in the bus
interface by the model's choice (log 12). The row stands for its DATA write (log 6). -/
def Obligations.WindowFieldWriteNeedsDisabledEntry : Prop :=
  ∀ (field : WindowField) (v : Half) (s : State), s.CanCycle →
    ((s.windows[s.sel.window]).enabled = true →
      exec (.windowFieldWrite field v) s = .next { s with bus := s.bus.afterDataWrite }) ∧
    ((s.windows[s.sel.window]).enabled = false →
      ∃ w : Window,
        exec (.windowFieldWrite field v) s =
          .next { s with windows := s.windows.set s.sel.window.val w s.sel.window.isLt, bus := s.bus.afterDataWrite } ∧
        w.enabled = false ∧
        w.localBase =
          (match field with
           | .localLow => (s.windows[s.sel.window]).localBase / 0x10000 * 0x10000 + v.toNat / 0x1000 * 0x1000
           | .localHigh => v.toNat % 0x400 * 0x10000 + (s.windows[s.sel.window]).localBase % 0x10000
           | .sizeCode | .remoteLow | .remoteHigh | .attributes => (s.windows[s.sel.window]).localBase) ∧
        w.remoteBase =
          (match field with
           | .remoteLow => (s.windows[s.sel.window]).remoteBase / 0x10000 * 0x10000 + v.toNat / 0x1000 * 0x1000
           | .remoteHigh => v.toNat % 0x1000 * 0x10000 + (s.windows[s.sel.window]).remoteBase % 0x10000
           | .localLow | .localHigh | .sizeCode | .attributes => (s.windows[s.sel.window]).remoteBase) ∧
        w.sizeCode = (if field = .sizeCode then v.extractLsb' 0 4 else (s.windows[s.sel.window]).sizeCode) ∧
        w.attrs =
          (if field = .attributes then
            { cacheable := v.getLsbD 0, prefetch := v.getLsbD 1, posted := v.getLsbD 2, readOnly := v.getLsbD 3,
              ordered := v.getLsbD 4 }
          else (s.windows[s.sel.window]).attrs))

/-- The interrupt registers (R165, R166): a one written to a flag bit clears that flag and a zero leaves it; the enables take
the low four bits; nothing else changes. The output is asserted exactly while a flag is set with its enable, and never
while the reset input is asserted. The cycle's end is held in the bus interface by the model's choice (log 12). The row
stands for its DATA write (log 6). -/
def Obligations.InterruptRegistersAndOutput : Prop :=
  (∀ (v : Half) (s : State), s.CanCycle →
    exec (.interruptFlagClear v) s =
      .next { s with
        irq := { s.irq with flags :=
          { record := if v.getLsbD 0 then false else s.irq.flags.record
            link := if v.getLsbD 1 then false else s.irq.flags.link
            sync := if v.getLsbD 2 then false else s.irq.flags.sync
            sweep := if v.getLsbD 3 then false else s.irq.flags.sweep } }
        bus := s.bus.afterDataWrite } ∧
    exec (.interruptEnableWrite v) s =
      .next { s with
        irq := { s.irq with enables :=
          { record := v.getLsbD 0, link := v.getLsbD 1, sync := v.getLsbD 2, sweep := v.getLsbD 3 } }
        bus := s.bus.afterDataWrite }) ∧
  ∀ s : State, s.interruptOutput = true ↔
    s.pins.resetAsserted = false ∧
      ((s.irq.flags.record = true ∧ s.irq.enables.record = true) ∨ (s.irq.flags.link = true ∧ s.irq.enables.link = true) ∨
        (s.irq.flags.sync = true ∧ s.irq.enables.sync = true) ∨ (s.irq.flags.sweep = true ∧ s.irq.enables.sweep = true))

/-! ## The commands of the command register -/

/-- JOIN (R93): refused in UP and JOINING, and without a board number; else the link is JOINING with a JOIN pending, which
the transmitter takes at once if it is FREE (R94, R102). The cycle's end is held in the bus interface by the model's
choice (log 12). The row stands for its DATA write (log 6). -/
def Obligations.JoinCommandOutcomes : Prop :=
  ∀ s : State, s.CanCycle →
    (s.link.state = .up ∨ s.link.state = .joining →
      exec .join s = .next { s with cmd := { s.cmd with status := .wrongState }, bus := s.bus.afterDataWrite }) ∧
    (s.link.state = .down ∨ s.link.state = .failed →
      (s.link.boardNumber = 0#4 →
        exec .join s = .next { s with cmd := { s.cmd with status := .noIdentity }, bus := s.bus.afterDataWrite }) ∧
      (s.link.boardNumber ≠ 0#4 →
        (∀ f, s.link.tx = .sending f →
          exec .join s =
            .next { s with link := { s.link with state := .joining, joinRetries := 0#3, joinPending := true },
                           cmd := { s.cmd with status := .done }, bus := s.bus.afterDataWrite }) ∧
        (s.link.tx = .free →
          exec .join s =
            .next { s with
              link := { s.link with
                state := .joining, joinRetries := 0#3, joinPending := false,
                joinTimer := .running ((s.settings.t.toNat + 1) * 32), tx := .sending (.join s.link.boardNumber 3#8) }
              cmd := { s.cmd with status := .done }, bus := s.bus.afterDataWrite })))

/-- STOP (R96, R98): DONE in every state; in UP and JOINING the teardown, with every FILLING way sent behind the others of
its set (R44, R12), without record, LINK flag or change of the last failure cause; in every state a sweep start and the link
DOWN. The cycle's end is held in the bus interface by the model's choice (log 12). The row stands for its DATA write (log 6).
-/
def Obligations.StopTakesTheLinkDown : Prop :=
  ∀ s : State, s.CanCycle → s.FillLaw → s.SweepLaw → s.LinkLaw → ∃ t, exec .stop s = .next t ∧
    t.link.state = .down ∧ t.cmd = { s.cmd with status := .done } ∧ t.bus = s.bus.afterDataWrite ∧
    t.records = s.records ∧ t.irq.flags.record = s.irq.flags.record ∧ t.irq.flags.link = s.irq.flags.link ∧
    t.link.lastCause = s.link.lastCause ∧ t.link.joinRetries = s.link.joinRetries ∧ t.link.tx = s.link.tx ∧
    t.link.boardNumber = s.link.boardNumber ∧ t.link.autoRejoin = s.link.autoRejoin ∧
    t.sweep = (if s.sweep.isRunning then s.sweep else .running 0#8) ∧
    (s.link.state = .up ∨ s.link.state = .joining → State.TornDown s t ∧
      t.link.joinPending = false ∧ t.link.joinTimer = .stopped ∧ t.link.quietTimer = .stopped) ∧
    (s.link.state = .down ∨ s.link.state = .failed →
      t.reads = s.reads ∧ t.wq = s.wq ∧ t.sync = s.sync ∧ t.irq = s.irq ∧ t.dir = s.dir ∧ t.windows = s.windows ∧
      t.notices = s.notices ∧ t.counters = s.counters ∧ t.settings = s.settings ∧ t.sel = s.sel ∧
      t.link = { s.link with state := .down })

/-- SOFT_RESET (R175): the right column's items as at the reset input, the left column's kept, the status DONE; the kept
INDEX is the one after the command's own DATA cycle. The cycle's end is held in the bus interface by the model's choice
(log 12). The row stands for its DATA write (log 6). -/
def Obligations.SoftResetKeepsConfiguration : Prop :=
  ∀ s : State, s.CanCycle → ∃ t, exec .softReset s = .next t ∧ t.Cleared ∧
    t.windows = s.windows ∧ t.settings = s.settings ∧ t.link.autoRejoin = s.link.autoRejoin ∧ t.dir.hold = s.dir.hold ∧
    t.irq.enables = s.irq.enables ∧ t.link.boardNumber = s.link.boardNumber ∧ t.bus = s.bus.afterDataWrite ∧
    t.cmd.status = .done ∧ t.pins = s.pins

/-- SWEEP (R89, R81, R82): DONE; absorbed while a sweep runs; else every FILLING way is released and sent behind the others
of its set, in an order R81 leaves open (the free value of log 11), every LINE entry loses its target way, no other way
or entry field changes, and the sweep runs from set 0. The cycle's end is held in the bus interface by the model's choice
(log 12). The row stands for its DATA write (log 6). -/
def Obligations.SweepCommandStartsOrIsAbsorbed : Prop :=
  ∀ s : State, s.CanCycle →
    (s.sweep.isRunning = true →
      exec .sweep s = .next { s with cmd := { s.cmd with status := .done }, bus := s.bus.afterDataWrite }) ∧
    (s.sweep.isRunning = false → ∃ d : Directory,
      exec .sweep s =
        .next { s with
          dir := d
          reads := { s.reads with entries := s.reads.entries.map fun e : ReadEntry =>
            { e with work := e.work.map fun w => { w with request := w.request.wayless } } }
          sweep := .running 0#8
          freeCount := s.freeCount + 1
          cmd := { s.cmd with status := .done }
          bus := s.bus.afterDataWrite } ∧
      d.hold = s.dir.hold ∧
      ∀ i : SetIndex,
        (∀ w : Fin 4, (d.get i).ways[w] =
          if ((s.dir.get i).ways[w]).isFilling then .invalid else (s.dir.get i).ways[w]) ∧
        ∃ back : List (Fin 4),
          (d.get i).order = ((s.dir.get i).order.filter fun w => !((s.dir.get i).ways[w]).isFilling) ++ back ∧
          back.Perm ((List.finRange 4).filter fun w => ((s.dir.get i).ways[w]).isFilling))

/-- SYNC (R146, R54): refused while the link is not UP, and while a barrier is PENDING or SENT; else the youngest entry
is closed and becomes the one marked entry, the mark status and the through-sequence are set from it, and the barrier is
PENDING, offered to the transmitter at the same event (R147, R103; log 19). That the through-sequence becomes absent when
the mark is QUEUED is the model's choice (log 24). The cycle's end is held in the bus interface by the model's choice
(log 12). The row stands for its DATA write (log 6). -/
def Obligations.SyncCommandOutcomes : Prop :=
  ∀ s : State, s.CanCycle →
    (s.link.state ≠ .up →
      exec .sync s = .next { s with cmd := { s.cmd with status := .wrongState }, bus := s.bus.afterDataWrite }) ∧
    (s.link.state = .up → s.sync.state = .pending ∨ s.sync.state = .sent →
      exec .sync s = .next { s with cmd := { s.cmd with status := .busy }, bus := s.bus.afterDataWrite }) ∧
    (s.link.state = .up → s.sync.state ≠ .pending → s.sync.state ≠ .sent →
      (s.wq.entries = [] →
        exec .sync s = .next
          { State.transmit { s with
              sync := { state := .pending, mark := .none, through := s.wq.lastAssigned, issue := 0#2, retries := 0#3,
                        timer := .stopped } } with
            cmd := { s.cmd with status := .done }, bus := s.bus.afterDataWrite }) ∧
      (∀ (rest : List WriteEntry) (y : WriteEntry), s.wq.entries = rest ++ [y] → y.state = .queued →
        exec .sync s = .next
          { State.transmit { s with
              wq := { s.wq with entries :=
                (rest.map fun e => { e with mark := false }) ++ [{ y with closed := true, mark := true }] }
              sync := { state := .pending, mark := .waiting, through := none, issue := 0#2, retries := 0#3,
                        timer := .stopped } } with
            cmd := { s.cmd with status := .done }, bus := s.bus.afterDataWrite }) ∧
      (∀ (rest : List WriteEntry) (y : WriteEntry) (q : Seq) (r : Bool), s.wq.entries = rest ++ [y] → y.state = .sent q r →
        exec .sync s = .next
          { State.transmit { s with
              wq := { s.wq with entries :=
                (rest.map fun e => { e with mark := false }) ++ [{ y with closed := true, mark := true }] }
              sync := { state := .pending, mark := .sent, through := some q, issue := 0#2, retries := 0#3,
                        timer := .stopped } } with
            cmd := { s.cmd with status := .done }, bus := s.bus.afterDataWrite }))

/-- POP_RECORD (R159): the head leaves and the status is DONE, or the queue is empty and the status EMPTY; nothing else
changes, the overflow counter and the RECORD flag among it. The cycle's end is held in the bus interface by the model's
choice (log 12). The row stands for its DATA write (log 6). -/
def Obligations.PopRecordRemovesTheHead : Prop :=
  ∀ s : State, s.CanCycle →
    (s.records.list = [] →
      exec .popRecord s = .next { s with cmd := { s.cmd with status := .empty }, bus := s.bus.afterDataWrite }) ∧
    (∀ (r : ErrorRecord) (rest : List ErrorRecord), s.records.list = r :: rest →
      exec .popRecord s =
        .next { s with records := { s.records with list := rest }, cmd := { s.cmd with status := .done },
                       bus := s.bus.afterDataWrite })

/-- INVALIDATE_LINE (R21, R13, R14): the line of bits 27..5 of the remote address argument; a VALID way for it is
invalidated, a FILLING way released with its entry made wayless, and either goes to the back; without one, nothing but
the status DONE. The cycle's end is held in the bus interface by the model's choice (log 12). The row stands for its DATA
write (log 6). -/
def Obligations.InvalidateLineActsOnItsWay : Prop :=
  ∀ (s : State) (a : LineAddr), s.CanCycle → s.UniqueLaw → a = s.cmd.remoteArg.extractLsb' 5 23 →
    ((∀ w : Fin 4, ((s.dir.get (setOf a)).ways[w]).tag? ≠ some (tagOf a)) →
      exec .invalidateLine s = .next { s with cmd := { s.cmd with status := .done }, bus := s.bus.afterDataWrite }) ∧
    (∀ (w : Fin 4) (data : Line), (s.dir.get (setOf a)).ways[w] = .valid (tagOf a) data →
      exec .invalidateLine s =
        .next { s with dir := s.dir.withSet (setOf a) ((s.dir.get (setOf a)).withDropped w),
                       cmd := { s.cmd with status := .done }, bus := s.bus.afterDataWrite }) ∧
    (∀ (w : Fin 4) (ref : Fin 4), (s.dir.get (setOf a)).ways[w] = .filling (tagOf a) ref →
      exec .invalidateLine s =
        .next { s with dir := s.dir.withSet (setOf a) ((s.dir.get (setOf a)).withDropped w),
                       reads := s.reads.withoutTarget ref,
                       cmd := { s.cmd with status := .done }, bus := s.bus.afterDataWrite })

/-- ENABLE_WINDOW sets the named entry's enabled flag exactly when the three checks of R116 hold, and answers DONE, else
BAD_ARGUMENT; DISABLE_WINDOW clears it and answers DONE (R117). Nothing else changes. The cycle's end is held in the bus
interface by the model's choice (log 12). The row stands for its DATA write (log 6). -/
def Obligations.WindowCommandsSetTheEnabledFlag : Prop :=
  ∀ s : State, s.CanCycle →
    ((s.windows[s.cmd.windowArg]).sizeCode.toNat ≤ 12 →
      (s.windows[s.cmd.windowArg]).localBase % (0x1000 * 2 ^ (s.windows[s.cmd.windowArg]).sizeCode.toNat) = 0 →
      (s.windows[s.cmd.windowArg]).localBase + 0x1000 * 2 ^ (s.windows[s.cmd.windowArg]).sizeCode.toNat ≤ 0x4000000 →
      (s.windows[s.cmd.windowArg]).remoteBase % (0x1000 * 2 ^ (s.windows[s.cmd.windowArg]).sizeCode.toNat) = 0 →
      (s.windows[s.cmd.windowArg]).remoteBase + 0x1000 * 2 ^ (s.windows[s.cmd.windowArg]).sizeCode.toNat ≤ 0x10000000 →
      exec .enableWindow s =
        .next { s with
          windows := s.windows.set s.cmd.windowArg.val { s.windows[s.cmd.windowArg] with enabled := true }
            s.cmd.windowArg.isLt
          cmd := { s.cmd with status := .done }, bus := s.bus.afterDataWrite }) ∧
    (¬ ((s.windows[s.cmd.windowArg]).sizeCode.toNat ≤ 12 ∧
        (s.windows[s.cmd.windowArg]).localBase % (0x1000 * 2 ^ (s.windows[s.cmd.windowArg]).sizeCode.toNat) = 0 ∧
        (s.windows[s.cmd.windowArg]).localBase + 0x1000 * 2 ^ (s.windows[s.cmd.windowArg]).sizeCode.toNat ≤ 0x4000000 ∧
        (s.windows[s.cmd.windowArg]).remoteBase % (0x1000 * 2 ^ (s.windows[s.cmd.windowArg]).sizeCode.toNat) = 0 ∧
        (s.windows[s.cmd.windowArg]).remoteBase + 0x1000 * 2 ^ (s.windows[s.cmd.windowArg]).sizeCode.toNat ≤ 0x10000000) →
      exec .enableWindow s =
        .next { s with cmd := { s.cmd with status := .badArgument }, bus := s.bus.afterDataWrite }) ∧
    exec .disableWindow s =
      .next { s with
        windows := s.windows.set s.cmd.windowArg.val { s.windows[s.cmd.windowArg] with enabled := false }
          s.cmd.windowArg.isLt
        cmd := { s.cmd with status := .done }, bus := s.bus.afterDataWrite }

/-- CLEAR_COUNTERS zeroes all seven counters together (R163), CLEAR_OVERFLOW the overflow counter, keeping the records
(R160), both with status DONE; a value that is no command code only sets BAD_ARGUMENT (R172). The cycle's end is held in
the bus interface by the model's choice (log 12). The row stands for its DATA write (log 6). -/
def Obligations.ClearCommandsAndUnknownCodes : Prop :=
  ∀ s : State, s.CanCycle →
    exec .clearCounters s =
      .next { s with
        counters := { hits := 0#16, misses := 0#16, noticesApplied := 0#16, staleFrames := 0#16, corruptFrames := 0#16,
                      readResends := 0#16, writeReplays := 0#16 }
        cmd := { s.cmd with status := .done }, bus := s.bus.afterDataWrite } ∧
    exec .clearOverflow s =
      .next { s with records := { s.records with overflow := 0#8 }, cmd := { s.cmd with status := .done },
                     bus := s.bus.afterDataWrite } ∧
    ∀ v : Half, ¬ (1 ≤ v.toNat ∧ v.toNat ≤ 0x0B) →
      exec (.unknownCommand v) s =
        .next { s with cmd := { s.cmd with status := .badArgument }, bus := s.bus.afterDataWrite }

/-! ## The record queue and the transmitter -/

/-- A record handed to the record queue (R157, R158): merged into the youngest when kind, window and remote address agree,
the count added and stopping at 255; else appended while fewer than 8 are held; else dropped and counted, stopping at
255. A merge or an append sets RECORD; nothing else changes. -/
def Obligations.RecordIsMergedAppendedOrDropped : Prop :=
  ∀ (r : ErrorRecord) (s : State),
    (∀ (rest : List ErrorRecord) (y : ErrorRecord), s.records.list = rest ++ [y] → y.body.kind = r.body.kind →
      y.body.window? = r.body.window? → y.body.remote? = r.body.remote? →
      s.handRecord r =
        { s with
          records := { s.records with list :=
            rest ++ [{ y with count := BitVec.ofNat 8 (min 255 (y.count.toNat + r.count.toNat)) }] }
          irq := { s.irq with flags := { s.irq.flags with record := true } } }) ∧
    ((∀ y : ErrorRecord, s.records.list.getLast? = some y →
        ¬ (y.body.kind = r.body.kind ∧ y.body.window? = r.body.window? ∧ y.body.remote? = r.body.remote?)) →
      (s.records.list.length < 8 →
        s.handRecord r =
          { s with records := { s.records with list := s.records.list ++ [r] }
                   irq := { s.irq with flags := { s.irq.flags with record := true } } }) ∧
      (8 ≤ s.records.list.length →
        s.handRecord r =
          { s with records := { s.records with overflow := BitVec.ofNat 8 (min 255 (s.records.overflow.toNat + 1)) } }))

/-- The transmitter's choice when it is FREE (R102, R103): a JOIN; else the request at the head of the send list, whose entry
becomes IN_FLIGHT with its timer started (R27, R39); else the oldest SENT entry with its replay flag set, whose flag is
cleared, or the oldest QUEUED entry, which becomes SENT under NWS (R56, R61, R147); else the SYNC frame (R148). It
changes nothing else, and nothing at all when nothing is offered or a frame is being sent. The end of a transmission
frees the transmitter, which makes this choice at the same event (R102). -/
def Obligations.TransmitterTakesByRank : Prop :=
  ∀ s : State, s.pins.resetAsserted = false →
    (∀ f, s.link.tx = .sending f → s.transmit = s ∧
      exec .transmissionEnd s = .next (State.transmit { s with link := { s.link with tx := .free } })) ∧
    (s.link.tx = .free →
      (¬ s.Offered → s.transmit = s) ∧
      (s.link.joinPending = true →
        s.transmit =
          { s with link := { s.link with joinPending := false, joinTimer := .running ((s.settings.t.toNat + 1) * 32),
                                         tx := .sending (.join s.link.boardNumber 3#8) } }) ∧
      (s.link.joinPending = false →
        (∀ (tag : Fin 4) (rest : List (Fin 4)) (w : ReadWork), s.reads.sendList = tag :: rest →
          (s.reads.entries[tag]).work = some w →
          s.transmit =
            { s with
              reads :=
                { entries := s.reads.entries.set tag.val
                    { s.reads.entries[tag] with
                      work := some { w with phase := .inFlight }, timer := .running ((s.settings.t.toNat + 1) * 32) } tag.isLt
                  sendList := rest }
              link := { s.link with
                tx := .sending
                  (match w.request with
                   | .line addr _ _ => .readLine tag (s.reads.entries[tag]).issue addr
                   | .word addr size => .readWord tag (s.reads.entries[tag]).issue size addr) } }) ∧
        (s.reads.sendList = [] →
          (∀ (pre post : List WriteEntry) (e : WriteEntry) (q : Seq), s.wq.entries = pre ++ e :: post →
            (∀ f ∈ pre, f.isReplay = false) → e.state = .sent q true →
            s.transmit =
              { s with
                wq := { s.wq with entries := pre ++ { e with state := .sent q false } :: post }
                link := { s.link with tx := .sending (.write q e.block (maskOf e.bytes) (dataOf e.bytes)) } }) ∧
          ((∀ f ∈ s.wq.entries, f.isReplay = false) →
            (∀ (pre post : List WriteEntry) (e : WriteEntry), s.wq.entries = pre ++ e :: post →
              (∀ f ∈ pre, f.isSent = true) → e.state = .queued →
              s.transmit =
                { s with
                  wq := { s.wq with
                    entries := pre ++ { e with state := .sent s.wq.nws false } :: post
                    nws := BitVec.ofNat 8 (s.wq.nws.toNat + 1)
                    lastAssigned := some s.wq.nws
                    timer := if s.wq.entries.any WriteEntry.isSent then s.wq.timer
                             else .running ((s.settings.t.toNat + 1) * 32) }
                  link := { s.link with tx := .sending (.write s.wq.nws e.block (maskOf e.bytes) (dataOf e.bytes)) }
                  sync := if e.mark then { s.sync with mark := .sent, through := some s.wq.nws } else s.sync }) ∧
            ((∀ f ∈ s.wq.entries, f.isSent = true) → s.sync.state = .pending → s.sync.mark ≠ .waiting →
              s.transmit =
                { s with
                  sync := { s.sync with state := .sent, timer := .running ((s.settings.t.toNat + 1) * 32) }
                  link := { s.link with tx := .sending (.sync s.sync.issue s.sync.through) } })))))

/-! ## Arriving frames -/

/-- A WELCOME while JOINING brings the link UP (R95); while UP it is stale and only restarts the quiet timer (R106, R107). -/
def Obligations.WelcomeBringsTheLinkUp : Prop :=
  ∀ (first : Seq) (s : State), s.pins.resetAsserted = false →
    (s.link.state = .joining →
      exec (.welcome first) s =
        .next { s with
          link := { s.link with state := .up, joinTimer := .stopped, joinPending := false,
                                quietTimer := .running (max 2 s.settings.q.toNat * 256) }
          wq := { s.wq with nws := 0#8, rt := 0#8, lastAssigned := none }
          notices := { expected := first }
          irq := { s.irq with flags := { s.irq.flags with link := true } } }) ∧
    (s.link.state = .up →
      exec (.welcome first) s =
        .next { s with
          link := { s.link with quietTimer := .running (max 2 s.settings.q.toNat * 256) }
          counters := { s.counters with staleFrames := countUp s.counters.staleFrames } })

/-- A frame that the receiver does not hand on (R105, R106): every kind but WELCOME is stale while JOINING and only counts;
every frame is discarded uncounted and unchecked while DOWN or FAILED; while UP or JOINING, bytes that fail the
receiver's checks are only counted as corrupt, the quiet timer left as it is, and bytes that pass are the frame they
spell (log 15). -/
def Obligations.ReceiverTurnsFramesAway : Prop :=
  ∀ s : State, s.pins.resetAsserted = false →
    (s.link.state = .up ∨ s.link.state = .joining → ∀ bytes : List Byte,
      (Frames.parse bytes = none →
        exec (.corruptFrame bytes) s =
          .next { s with counters := { s.counters with corruptFrames := countUp s.counters.corruptFrames } }) ∧
      ∀ f : InFrame, Frames.parse bytes = some f →
        exec (.corruptFrame bytes) s = exec (arrivalOf f) s ∧ exec (.frameWhileDown bytes) s = exec (arrivalOf f) s) ∧
    (s.link.state = .joining → ∀ f : InFrame, (∀ first, f ≠ .welcome first) →
      exec (arrivalOf f) s =
        .next { s with counters := { s.counters with staleFrames := countUp s.counters.staleFrames } }) ∧
    (s.link.state = .down ∨ s.link.state = .failed →
      (∀ f : InFrame, exec (arrivalOf f) s = .next s) ∧
      ∀ bytes : List Byte, exec (.frameWhileDown bytes) s = .next s ∧ exec (.corruptFrame bytes) s = .next s)

/-- A response that is stale for its entry by one of the five conditions of R33 counts, restarts the quiet timer (R106),
and changes nothing else. An increment of a statistics counter, here and in every other statement, raises it by one and
stops at 65535 (R161, R162). -/
def Obligations.StaleResponsesChangeNoEntry : Prop :=
  (∀ c : BitVec 16, (countUp c).toNat = min 65535 (c.toNat + 1)) ∧
  ∀ (tag : Fin 4) (issue : Issue) (status : Status) (s : State), s.pins.resetAsserted = false → s.link.state = .up →
    (∀ data : Line,
      (∀ w, (s.reads.entries[tag]).work = some w →
        w.phase = .awaiting ∨ (s.reads.entries[tag]).issue ≠ issue ∨ (∃ addr size, w.request = .word addr size) ∨
          status = .duplicate) →
      exec (.lineData tag issue status data) s =
        .next { s with
          link := { s.link with quietTimer := .running (max 2 s.settings.q.toNat * 256) }
          counters := { s.counters with staleFrames := countUp s.counters.staleFrames } }) ∧
    (∀ data : Vector Byte 4,
      (∀ w, (s.reads.entries[tag]).work = some w →
        w.phase = .awaiting ∨ (s.reads.entries[tag]).issue ≠ issue ∨ (∃ addr p x, w.request = .line addr p x) ∨
          status = .duplicate) →
      exec (.wordData tag issue status data) s =
        .next { s with
          link := { s.link with quietTimer := .running (max 2 s.settings.q.toNat * 256) }
          counters := { s.counters with staleFrames := countUp s.counters.staleFrames } })

/-- A matching LINE_DATA with status OK (R34, R36, R11): the fill buffer takes the overlaid data, a target way becomes VALID
with it at the front, a waiter's access ends with the bytes at its own offset, and the entry becomes FREE with its timer
stopped; the transmitter then chooses (log 19). No read waits on a free entry, as the law of the bus interface says of
every run (R28). The cycle's end is held in the bus interface by the model's choice (log 12). -/
def Obligations.LineDataCompletesItsEntry : Prop :=
  ∀ (tag : Fin 4) (issue : Issue) (data : Line) (s : State) (w : ReadWork) (addr : LineAddr) (p : Purpose) (x : Option Target),
    s.pins.resetAsserted = false → s.link.state = .up → s.FillLaw →
    (s.reads.entries[tag]).work = some w → w.phase = .inFlight → (s.reads.entries[tag]).issue = issue →
    w.request = .line addr p x → (∀ a, s.bus.access = some a → a.wait ≠ .freeEntry) →
    exec (.lineData tag issue .ok data) s =
      .next (State.transmit { s with
        link := { s.link with quietTimer := .running (max 2 s.settings.q.toNat * 256) }
        reads := s.reads.withEntry tag
          { s.reads.entries[tag] with
            work := none, timer := .stopped, fill := overlayQueue w.request s.wq.entries data }
        dir :=
          match x with
          | some y => s.dir.withSet y.set ((s.dir.get y.set).withFront y.way
              (.valid (tagOf addr) (overlayQueue w.request s.wq.entries data)))
          | none => s.dir
        bus :=
          match w.waiter, s.bus.access with
          | true, some a =>
            s.bus.afterRead (valueAt (overlayQueue w.request s.wq.entries data) (byteOffset a.remote) a.size) false
          | _, _ => s.bus })

/-- A matching WORD_DATA with status OK (R34, R36): the four bytes go to their offsets of the fill buffer, the overlay is
laid over the group, a waiter's access ends with its bytes, the entry becomes FREE, and the directory is not touched. No
read waits on a free entry, as the law of the bus interface says of every run (R28). The cycle's end is held in the bus
interface by the model's choice (log 12). The transmitter's choice comes last at the event (log 19). -/
def Obligations.WordDataCompletesItsEntry : Prop :=
  ∀ (tag : Fin 4) (issue : Issue) (data : Vector Byte 4) (s : State) (w : ReadWork) (addr : RemoteAddr) (size : Size),
    s.pins.resetAsserted = false → s.link.state = .up →
    (s.reads.entries[tag]).work = some w → w.phase = .inFlight → (s.reads.entries[tag]).issue = issue →
    w.request = .word addr size → (∀ a, s.bus.access = some a → a.wait ≠ .freeEntry) →
    ∃ buffer : Line,
      (∀ (k : Nat) (h : k < 32), buffer[k] =
        if k / 4 = (byteOffset addr).toNat / 4 then data[k % 4]'(Nat.mod_lt k (by decide))
        else ((s.reads.entries[tag]).fill)[k]) ∧
      exec (.wordData tag issue .ok data) s =
        .next (State.transmit { s with
          link := { s.link with quietTimer := .running (max 2 s.settings.q.toNat * 256) }
          reads := s.reads.withEntry tag
            { s.reads.entries[tag] with
              work := none, timer := .stopped, fill := overlayQueue w.request s.wq.entries buffer }
          bus :=
            match w.waiter, s.bus.access with
            | true, some a =>
              s.bus.afterRead (valueAt (overlayQueue w.request s.wq.entries buffer) (byteOffset a.remote) a.size) false
            | _, _ => s.bus })

/-- A matching response with status NO_MEMORY or PROTECTED (R37, R12): the entry becomes FREE with its timer stopped, a
target way becomes INVALID at the back, and a waiter's access ends with all ones, bus error under BERR_EN, and a
READ_REFUSED record; without a waiter there is no record. The fill buffer stays. No read waits on a free entry, as the
law of the bus interface says of every run (R28). The cycle's end is held in the bus interface by the model's choice (log
12). The transmitter's choice comes last at the event (log 19). -/
def Obligations.RefusedResponseEndsItsEntry : Prop :=
  ∀ (tag : Fin 4) (issue : Issue) (status : Status) (s : State) (w : ReadWork),
    s.pins.resetAsserted = false → s.link.state = .up → status = .noMemory ∨ status = .prot →
    (s.reads.entries[tag]).work = some w → w.phase = .inFlight → (s.reads.entries[tag]).issue = issue →
    (∀ a, s.bus.access = some a → a.wait ≠ .freeEntry) → (w.waiter = true → s.bus.access.isSome = true) →
    ∀ c : Instr,
      ((∃ data addr p x, w.request = .line addr p x ∧ c = .lineData tag issue status data) ∨
        (∃ data addr size, w.request = .word addr size ∧ c = .wordData tag issue status data)) →
      exec c s =
        .next (State.transmit
          (let ended : State :=
            { s with
              link := { s.link with quietTimer := .running (max 2 s.settings.q.toNat * 256) }
              reads := s.reads.withEntry tag
                { s.reads.entries[tag] with work := none, timer := .stopped }
              dir :=
                match w.request with
                | .line _ _ (some y) => s.dir.withSet y.set ((s.dir.get y.set).withDropped y.way)
                | .line _ _ none | .word _ _ => s.dir
              bus :=
                match w.waiter, s.bus.access with
                | true, some a => s.bus.afterRead (onesOf a.size) s.bus.berrEn
                | _, _ => s.bus }
          if w.waiter then
            ended.handRecord ⟨.readRefused w.window
              (match w.request with
               | .line addr _ _ => addr ++ 0#5
               | .word addr _ => addr), 1#8⟩
          else ended))

/-- A WRITE_ACK that names an entry (R57, R58, R59, R60, R65, R53): the named entry and the older ones leave, the write
timer restarts or stops, the replay count becomes 0, the sync unit hears of its mark; a refusal makes the WRITE_REFUSED
record and invalidates a VALID way of the block; the non-posted writer, found by a non-posted entry among the removed
(log 20), ends; a write that waits on space is presented, a read that waits on an empty queue is dispatched (log 17),
either after the invalidation (the read log 18, the write's directory effect log 25, the model's choice); then the
refusal total is compared with RT and replaces it. The cycle's end is held in the bus interface by the model's choice
(log 12). The transmitter's choice comes last at the event (log 19). -/
def Obligations.WriteAckRetiresEntries : Prop :=
  ∀ (seq : Seq) (status : Status) (total : BitVec 8) (s : State) (gone : List WriteEntry) (named : WriteEntry)
    (rest : List WriteEntry),
    s.pins.resetAsserted = false → s.link.state = .up → s.QueueLaw →
    s.wq.entries = gone ++ named :: rest → named.state = .sent seq (named.isReplay) →
    exec (.writeAck seq status total) s =
      .next (State.transmit
        (let removed : State :=
          { s with
            link := { s.link with quietTimer := .running (max 2 s.settings.q.toNat * 256) }
            wq := { s.wq with
              entries := rest
              timer := if rest.any WriteEntry.isSent then .running ((s.settings.t.toNat + 1) * 32) else .stopped
              replayCount := 0#3 }
            sync := if (gone ++ [named]).any WriteEntry.mark then { s.sync with mark := .gone } else s.sync }
        let refused : Bool := status = .noMemory ∨ status = .prot
        let reported : State :=
          if refused then
            (removed.handRecord ⟨.writeRefused named.window (named.block ++ 0#5), 1#8⟩).invalidateValid named.block
          else removed
        let ended : State :=
          match s.bus.access with
          | some a =>
            if a.wait = .entryRemoved ∧ ((gone ++ [named]).any fun e => !e.posted) = true then
              { reported with bus := s.bus.afterWrite (refused && s.bus.berrEn) }
            else reported
          | none => reported
        let resumed : State :=
          match ended.bus.access with
          | some a =>
            if a.wait = .queueSpace then ended.presentWrite a
            else if a.wait = .queueEmpty ∧ rest = [] then ended.dispatchRead true a
            else ended
          | none => ended
        let expected : BitVec 8 := BitVec.ofNat 8 (s.wq.rt.toNat + if refused then 1 else 0)
        let settled : State := { resumed with wq := { resumed.wq with rt := total } }
        if total = expected then settled
        else settled.handRecord ⟨.writeRefusedTotal, total - expected⟩))

/-- A WRITE_ACK that names no entry is stale (R57): it counts, restarts the quiet timer, and removes nothing; its refusal
total is still compared and taken (R60). -/
def Obligations.StaleWriteAckOnlySettlesTheTotal : Prop :=
  ∀ (seq : Seq) (status : Status) (total : BitVec 8) (s : State),
    s.pins.resetAsserted = false → s.link.state = .up → s.QueueLaw → s.TransmitterLaw →
    (∀ e ∈ s.wq.entries, e.seq? ≠ some seq) →
    exec (.writeAck seq status total) s =
      .next
        (let settled : State :=
          { s with
            link := { s.link with quietTimer := .running (max 2 s.settings.q.toNat * 256) }
            counters := { s.counters with staleFrames := countUp s.counters.staleFrames }
            wq := { s.wq with rt := total } }
        let expected : BitVec 8 :=
          BitVec.ofNat 8 (s.wq.rt.toNat + if status = .noMemory ∨ status = .prot then 1 else 0)
        if total = expected then settled
        else settled.handRecord ⟨.writeRefusedTotal, total - expected⟩)

/-- A SYNC_ACK (R149): a match while SENT under the unit's own issue number makes the barrier DONE, stops the timer and sets
the SYNC flag; any other is stale. Both restart the quiet timer (R106). -/
def Obligations.SyncAckCompletesTheBarrier : Prop :=
  ∀ (issue : Issue) (s : State), s.pins.resetAsserted = false → s.link.state = .up →
    (s.sync.state = .sent → s.sync.issue = issue →
      exec (.syncAck issue) s =
        .next { s with
          link := { s.link with quietTimer := .running (max 2 s.settings.q.toNat * 256) }
          sync := { s.sync with state := .done, timer := .stopped }
          irq := { s.irq with flags := { s.irq.flags with sync := true } } }) ∧
    (¬ (s.sync.state = .sent ∧ s.sync.issue = issue) →
      exec (.syncAck issue) s =
        .next { s with
          link := { s.link with quietTimer := .running (max 2 s.settings.q.toNat * 256) }
          counters := { s.counters with staleFrames := countUp s.counters.staleFrames } })

/-- A matching NOTICE (R71, R72): the expected sequence is incremented; a VALID way of the line is invalidated, a FILLING way
released with its entry made wayless, either counting NOTICES_APPLIED; without one nothing else changes. -/
def Obligations.MatchingNoticeDropsItsLine : Prop :=
  ∀ (a : LineAddr) (s : State), s.pins.resetAsserted = false → s.link.state = .up → s.UniqueLaw →
    ((∀ w : Fin 4, ((s.dir.get (setOf a)).ways[w]).tag? ≠ some (tagOf a)) →
      exec (.notice s.notices.expected a) s =
        .next { s with
          link := { s.link with quietTimer := .running (max 2 s.settings.q.toNat * 256) }
          notices := { expected := BitVec.ofNat 8 (s.notices.expected.toNat + 1) } }) ∧
    (∀ (w : Fin 4) (data : Line), (s.dir.get (setOf a)).ways[w] = .valid (tagOf a) data →
      exec (.notice s.notices.expected a) s =
        .next { s with
          link := { s.link with quietTimer := .running (max 2 s.settings.q.toNat * 256) }
          notices := { expected := BitVec.ofNat 8 (s.notices.expected.toNat + 1) }
          dir := s.dir.withSet (setOf a) ((s.dir.get (setOf a)).withDropped w)
          counters := { s.counters with noticesApplied := countUp s.counters.noticesApplied } }) ∧
    (∀ (w : Fin 4) (ref : Fin 4), (s.dir.get (setOf a)).ways[w] = .filling (tagOf a) ref →
      exec (.notice s.notices.expected a) s =
        .next { s with
          link := { s.link with quietTimer := .running (max 2 s.settings.q.toNat * 256) }
          notices := { expected := BitVec.ofNat 8 (s.notices.expected.toNat + 1) }
          dir := s.dir.withSet (setOf a) ((s.dir.get (setOf a)).withDropped w)
          reads := s.reads.withoutTarget ref
          counters := { s.counters with noticesApplied := countUp s.counters.noticesApplied } })

/-- A matching TICK changes nothing but the quiet timer that every intact frame restarts (R73, R106). -/
def Obligations.MatchingTickChangesNothing : Prop :=
  ∀ s : State, s.pins.resetAsserted = false → s.link.state = .up →
    exec (.tick s.notices.expected) s =
      .next { s with link := { s.link with quietTimer := .running (max 2 s.settings.q.toNat * 256) } }

/-- A NOTICE or TICK with a gap (R71, R74, R75, R76): a NOTICE_GAP record with the expected and the received number, a start
presented to the sweep unit, and the expected sequence set to follow the NOTICE or to equal the TICK. -/
def Obligations.GapRecordsAndStartsASweep : Prop :=
  ∀ (received : Seq) (s : State), s.pins.resetAsserted = false → s.link.state = .up → received ≠ s.notices.expected →
    (∀ a : LineAddr,
      exec (.notice received a) s =
        .next { State.startSweep (State.handRecord ⟨.noticeGap s.notices.expected received, 1#8⟩
            { s with link := { s.link with quietTimer := .running (max 2 s.settings.q.toNat * 256) } }) with
          notices := { expected := BitVec.ofNat 8 (received.toNat + 1) } }) ∧
    exec (.tick received) s =
      .next { State.startSweep (State.handRecord ⟨.noticeGap s.notices.expected received, 1#8⟩
          { s with link := { s.link with quietTimer := .running (max 2 s.settings.q.toNat * 256) } }) with
        notices := { expected := received } }

/-! ## Failures, expiries and the events of the part itself -/

/-- The events that fail the link from UP (R41, R64, R151, R107, R108, R97 to R100): each with its own cause, and with the
teardown, which sends every FILLING way behind the others of its set (R44, R12). The cycle's end is held in the bus interface
by the model's choice (log 12). -/
def Obligations.FailureEventsTearDown : Prop :=
  ∀ s : State, s.pins.resetAsserted = false → s.link.state = .up → s.FillLaw → s.SweepLaw →
    (∃ t, exec .restart s = .next t ∧ State.FailedFromUp .storeRestart s t) ∧
    (s.link.quietTimer.isRunning = true → ∃ t, exec .quietTimerExpiry s = .next t ∧ State.FailedFromUp .quiet s t) ∧
    (s.wq.timer.isRunning = true → s.settings.retryLimit.toNat ≤ s.wq.replayCount.toNat →
      ∃ t, exec .writeTimerExpiry s = .next t ∧ State.FailedFromUp .writeTimeout s t) ∧
    (s.sync.timer.isRunning = true → s.settings.retryLimit.toNat ≤ s.sync.retries.toNat →
      ∃ t, exec .syncTimerExpiry s = .next t ∧ State.FailedFromUp .syncTimeout s t) ∧
    ∀ tag : Fin 4, (s.reads.entries[tag]).work.isSome = true → (s.reads.entries[tag]).timer.isRunning = true →
      s.settings.retryLimit.toNat ≤ (s.reads.entries[tag]).retries.toNat →
      ∃ t, exec (.responseTimerExpiry tag) s = .next t ∧ State.FailedFromUp .readTimeout s t

/-- An expiry with retries left resends (R40, R62, R151, R94): the read request under the next issue number at the tail of
the send list; every SENT write flagged for replay with the write timer restarted; the barrier under the next issue
number; the JOIN. The transmitter then chooses (log 19). Each counts as its rule says, and changes nothing else. -/
def Obligations.ExpiryWithRetriesLeftResends : Prop :=
  ∀ s : State,
    (∀ (tag : Fin 4) (w : ReadWork), (s.reads.entries[tag]).work = some w → (s.reads.entries[tag]).timer.isRunning = true →
      (s.reads.entries[tag]).retries.toNat < s.settings.retryLimit.toNat →
      exec (.responseTimerExpiry tag) s =
        .next (State.transmit { s with
          reads :=
            { entries := s.reads.entries.set tag.val
                { s.reads.entries[tag] with
                  work := some { w with phase := .awaiting }
                  issue := BitVec.ofNat 2 ((s.reads.entries[tag]).issue.toNat + 1)
                  retries := BitVec.ofNat 3 ((s.reads.entries[tag]).retries.toNat + 1)
                  timer := .stopped } tag.isLt
              sendList := s.reads.sendList ++ [tag] }
          counters := { s.counters with readResends := countUp s.counters.readResends } })) ∧
    (s.wq.timer.isRunning = true → s.wq.replayCount.toNat < s.settings.retryLimit.toNat →
      exec .writeTimerExpiry s =
        .next (State.transmit { s with
          wq := { s.wq with
            entries := s.wq.entries.map fun e =>
              match e.state with
              | .sent q _ => { e with state := .sent q true }
              | .queued => e
            replayCount := BitVec.ofNat 3 (s.wq.replayCount.toNat + 1)
            timer := .running ((s.settings.t.toNat + 1) * 32) }
          counters := { s.counters with writeReplays := countUp s.counters.writeReplays } })) ∧
    (s.sync.timer.isRunning = true → s.sync.retries.toNat < s.settings.retryLimit.toNat →
      exec .syncTimerExpiry s =
        .next (State.transmit { s with
          sync := { s.sync with
            state := .pending, issue := BitVec.ofNat 2 (s.sync.issue.toNat + 1)
            retries := BitVec.ofNat 3 (s.sync.retries.toNat + 1), timer := .stopped } })) ∧
    (s.link.joinTimer.isRunning = true → s.link.joinRetries.toNat < s.settings.retryLimit.toNat →
      exec .joinTimerExpiry s =
        .next (State.transmit { s with
          link := { s.link with
            joinRetries := BitVec.ofNat 3 (s.link.joinRetries.toNat + 1), joinPending := true, joinTimer := .stopped } }))

/-- A join that ends in failure (R94, R101): FAILED with cause JOIN_TIMEOUT, the LINK_FAILED record with no discarded writes,
the LINK flag; no sweep start, no rejoin, the retry count kept, nothing else changed. -/
def Obligations.JoinTimeoutEndsTheJoin : Prop :=
  ∀ s : State, s.link.joinTimer.isRunning = true → s.settings.retryLimit.toNat ≤ s.link.joinRetries.toNat →
    exec .joinTimerExpiry s =
      .next (State.setLinkFlag (State.handRecord ⟨.linkFailed .joinTimeout 0#4, 1#8⟩
        { s with link := { s.link with state := .failed, lastCause := some .joinTimeout, joinTimer := .stopped } }))

/-- A step on an empty queue leaves the state as it is (the model's, log 1). Events that find their timer stopped, the
transmitter FREE or no sweep running are no events, and change nothing (the model's, log 5). -/
def Obligations.IdleStepsAndEventsThatCannotArise : Prop :=
  ∀ s : State,
    (s.pending = [] → step s = .next s) ∧
    (s.link.tx = .free → exec .transmissionEnd s = .next s) ∧
    (s.sweep.isRunning = false → exec .sweepStep s = .next s) ∧
    (∀ tag : Fin 4, (s.reads.entries[tag]).timer.isRunning = false → exec (.responseTimerExpiry tag) s = .next s) ∧
    (s.wq.timer.isRunning = false → exec .writeTimerExpiry s = .next s) ∧
    (s.sync.timer.isRunning = false → exec .syncTimerExpiry s = .next s) ∧
    (s.link.joinTimer.isRunning = false → exec .joinTimerExpiry s = .next s) ∧
    (s.link.quietTimer.isRunning = false → exec .quietTimerExpiry s = .next s)

/-- A sweep step (R83, R84): the set at the position has every way INVALID and the order 0, 1, 2, 3, and the position moves
on; the step for set 255 makes the sweep IDLE at 256 and sets the SWEEP flag. Nothing else changes. -/
def Obligations.SweepStepClearsItsSet : Prop :=
  ∀ (p : SetIndex) (s : State), s.sweep = .running p →
    (p ≠ 255#8 →
      exec .sweepStep s =
        .next { s with
          dir := s.dir.withSet p { ways := Vector.replicate 4 .invalid, order := [0, 1, 2, 3] }
          sweep := .running (BitVec.ofNat 8 (p.toNat + 1)) }) ∧
    (p = 255#8 → ∃ t, exec .sweepStep s = .next t ∧
      t = { s with
        dir := s.dir.withSet p { ways := Vector.replicate 4 .invalid, order := [0, 1, 2, 3] }
        sweep := t.sweep
        irq := { s.irq with flags := { s.irq.flags with sweep := true } } } ∧
      t.sweep.isRunning = false ∧ t.sweep.position = 256)

/-! ## Aperture access -/

/-- A cycle that fails a check of R127 ends at its presentation (R128 to R131): a read with FFH in every byte of its size, or
in every enabled byte where it has none, either with bus error under BERR_EN, and with the record of the first check that
fails; nothing else changes. A cycle has a size exactly when its enables name one run of 1, 2 or 4 bytes from its offset up;
its offset is that of its lowest enabled byte, or its address when no byte is enabled (R127, with the lanes of log 13). The
cycle's end is held in the bus interface by the model's choice (log 12). -/
def Obligations.RefusedCyclesEndAtPresentation : Prop :=
  (∀ (c : Cycle) (data : BitVec 32) (body : RecordBody) (s : State), s.CanCycle →
    (s.TurnsAway c false body → ∃ ones : BitVec 32,
      exec (.apertureRead c) s =
        .next (State.handRecord ⟨body, 1#8⟩ { s with bus := s.bus.afterRead ones s.bus.berrEn }) ∧
      (∀ size, (presented c).size = some size → ones = BitVec.ofNat 32 (2 ^ (8 * sizeBytes size) - 1)) ∧
      ((presented c).size = none → ∀ k : Nat, k < 32 → ones.getLsbD k = c.enables.getLsbD (k / 8))) ∧
    (s.TurnsAway c true body →
      exec (.apertureWrite c data) s =
        .next (State.handRecord ⟨body, 1#8⟩ { s with bus := s.bus.afterWrite s.bus.berrEn }))) ∧
  ∀ c : Cycle,
    (∀ size : Size, (presented c).size = some size ↔
      c.enables.toNat = (2 ^ sizeBytes size - 1) * 2 ^ ((presented c).offset - c.address).toNat) ∧
    (c.enables = 0#4 → (presented c).offset = c.address) ∧
    ∀ k : Nat, c.enables.getLsbD k = true → (∀ j : Nat, j < k → c.enables.getLsbD j = false) →
      (presented c).offset = c.address + BitVec.ofNat 26 k

/-- A CACHEABLE read that hits ends at its presentation with the way's bytes, counts HITS and moves the way to the front (R4,
R6, R133); one that finds a FILLING way joins its entry as the waiter, with purpose DEMAND and its own window, counts
MISSES, and moves nothing (R7, R30, R134). Neither takes an entry or sends a frame. The cycle's end is held in the bus
interface by the model's choice (log 12). -/
def Obligations.CacheableReadHitsOrJoins : Prop :=
  ∀ (c : Cycle) (offset : Offset) (size : Size) (i : Fin 8) (a : Access) (w : Fin 4) (s : State),
    s.CanCycle → s.UniqueLaw → s.TransmitterLaw → presented c = ⟨offset, some size⟩ → s.Passes offset size false i →
    a = s.accessOf offset size .read i .entryDone → a.attrs.cacheable = true →
    (a.attrs.ordered = true → s.wq.entries = []) → s.sweep.isRunning = false →
    (∀ data : Line, (s.dir.get (setOf (lineOf a.remote))).ways[w] = .valid (tagOf (lineOf a.remote)) data →
      exec (.apertureRead c) s =
        .next { s.withHit w data a with counters := { s.counters with hits := countUp s.counters.hits } }) ∧
    (∀ (ref : Fin 4) (k : ReadWork) (p : Purpose) (x : Option Target),
      (s.dir.get (setOf (lineOf a.remote))).ways[w] = .filling (tagOf (lineOf a.remote)) ref →
      (s.reads.entries[ref]).work = some k → k.request = .line (lineOf a.remote) p x →
      exec (.apertureRead c) s =
        .next { s.withJoined ref k x a with counters := { s.counters with misses := countUp s.counters.misses } })

/-- A CACHEABLE read that misses, or any while a sweep runs, counts MISSES (R4, R5, R135). With an entry FREE it takes the
lowest-numbered as a demand fill and claims the victim it is offered (R8, R9, R28, R29); then a prefetch is considered:
taken for the next line in the lowest-numbered FREE entry, with its own victim, exactly when R31's conditions hold (R31,
R32). Without a FREE entry it waits on one and takes nothing (R28). The transmitter's choice comes last at the event (log
19). -/
def Obligations.CacheableReadMissTakesAFill : Prop :=
  (∀ (c : Cycle) (offset : Offset) (size : Size) (i : Fin 8) (a : Access) (s m : State),
    s.CanCycle → s.TransmitterLaw → presented c = ⟨offset, some size⟩ → s.Passes offset size false i →
    a = s.accessOf offset size .read i .entryDone → a.attrs.cacheable = true →
    (a.attrs.ordered = true → s.wq.entries = []) → (s.sweep.isRunning = true ∨ s.dir.Misses (lineOf a.remote)) →
    m = { s with counters := { s.counters with misses := countUp s.counters.misses } } →
    (∀ tag : Fin 4, s.reads.LowestFree tag →
      exec (.apertureRead c) s =
        .next (State.transmit
          { (m.withLineTaken tag (lineOf a.remote) .demand i true).considerPrefetch a with
            bus := { s.bus with access := some a } })) ∧
    ((∀ tag : Fin 4, (s.reads.entries[tag]).work ≠ none) →
      exec (.apertureRead c) s = .next { m with bus := { s.bus with access := some { a with wait := .freeEntry } } })) ∧
  ∀ (a : Access) (s : State),
    (¬ (a.attrs.prefetch = true ∧ ((lineOf a.remote).toNat + 1) * 32 < a.limit ∧
        s.dir.Misses (lineOf a.remote + 1#23) ∧ s.sweep.isRunning = false ∧ s.dir.hold = false ∧
        ∃ u v : Fin 4, u < v ∧ (s.reads.entries[u]).work = none ∧ (s.reads.entries[v]).work = none) →
      s.considerPrefetch a = s) ∧
    (a.attrs.prefetch = true → ((lineOf a.remote).toNat + 1) * 32 < a.limit →
      s.dir.Misses (lineOf a.remote + 1#23) → s.sweep.isRunning = false → s.dir.hold = false →
      ∀ u v : Fin 4, u < v → s.reads.LowestFree u → (s.reads.entries[v]).work = none →
        s.considerPrefetch a = s.withLineTaken u (lineOf a.remote + 1#23) .prefetch a.window false)

/-- A read through an ORDERED window with the write queue not empty waits for it to empty, before any lookup (R132, R153). A
read through a window without CACHEABLE takes the lowest-numbered FREE entry as a WORD entry, or waits on one; it touches
no directory way and no counter (R136, R29). The transmitter's choice comes last at the event (log 19). -/
def Obligations.WordReadsAndOrderedWaits : Prop :=
  ∀ (c : Cycle) (offset : Offset) (size : Size) (i : Fin 8) (a : Access) (s : State),
    s.CanCycle → s.TransmitterLaw → presented c = ⟨offset, some size⟩ → s.Passes offset size false i →
    a = s.accessOf offset size .read i .entryDone →
    (a.attrs.ordered = true → s.wq.entries ≠ [] →
      exec (.apertureRead c) s = .next { s with bus := { s.bus with access := some { a with wait := .queueEmpty } } }) ∧
    (a.attrs.cacheable = false → (a.attrs.ordered = true → s.wq.entries = []) →
      (∀ tag : Fin 4, s.reads.LowestFree tag →
        exec (.apertureRead c) s = .next (State.transmit (s.withWordTaken tag a))) ∧
      ((∀ tag : Fin 4, (s.reads.entries[tag]).work ≠ none) →
        exec (.apertureRead c) s = .next { s with bus := { s.bus with access := some { a with wait := .freeEntry } } }))

/-- A write that passes the checks (R50 to R54, R138 to R141, R154): a posted one merges into a youngest entry that takes it;
else it is appended, closed when it is not posted, while the queue holds fewer than 8 entries; else it waits on space and
nothing changes. When it is taken the directory sees it at the same event; a posted write ends, another waits for its
entry's removal. The cycle's end is held in the bus interface by the model's choice (log 12). The transmitter's choice
comes last at the event (log 19). -/
def Obligations.WriteIsMergedAppendedOrWaits : Prop :=
  ∀ (c : Cycle) (data kept : BitVec 32) (offset : Offset) (size : Size) (i : Fin 8) (a : Access) (s : State),
    s.CanCycle → presented c = ⟨offset, some size⟩ → s.Passes offset size true i →
    kept = data &&& BitVec.ofNat 32 (2 ^ (8 * sizeBytes size) - 1) →
    a = s.accessOf offset size (.write kept) i .queueSpace →
    (∀ (rest : List WriteEntry) (y : WriteEntry), s.wq.entries = rest ++ [y] → y.Takes a →
      exec (.apertureWrite c data) s =
        .next (State.transmit (State.directorySeesWrite a.attrs.cacheable (lineOf a.remote)
          (placeBytes (byteOffset a.remote) size kept)
          { s with
            wq := { s.wq with entries :=
              rest ++ [{ y with bytes := mergeBytes y.bytes (placeBytes (byteOffset a.remote) size kept) }] }
            bus := s.bus.afterWrite false }))) ∧
    ((∀ y : WriteEntry, s.wq.entries.getLast? = some y → ¬ y.Takes a) →
      (s.wq.entries.length < 8 →
        exec (.apertureWrite c data) s =
          .next (State.transmit (State.directorySeesWrite a.attrs.cacheable (lineOf a.remote)
            (placeBytes (byteOffset a.remote) size kept) (s.withAppended a kept)))) ∧
      (8 ≤ s.wq.entries.length → s.TransmitterLaw →
        exec (.apertureWrite c data) s = .next { s with bus := { s.bus with access := some a } }))

/-- What the directory does as the write queue takes a write (R15, R16, R86): nothing while a sweep runs; through a CACHEABLE
window a VALID way's masked bytes are replaced, its tag and the order kept; through another a VALID way is invalidated; a
FILLING way, or no way, is left as it is. -/
def Obligations.DirectorySeesTakenWrites : Prop :=
  ∀ (cacheable : Bool) (a : LineAddr) (bytes : MaskedLine) (s : State), s.UniqueLaw →
    (s.sweep.isRunning = true ∨ s.dir.Misses a ∨
        (∃ (w : Fin 4) (ref : Fin 4), (s.dir.get (setOf a)).ways[w] = .filling (tagOf a) ref) →
      s.directorySeesWrite cacheable a bytes = s) ∧
    ∀ (w : Fin 4) (data : Line), s.sweep.isRunning = false → (s.dir.get (setOf a)).ways[w] = .valid (tagOf a) data →
      (cacheable = false →
        s.directorySeesWrite cacheable a bytes =
          { s with dir := s.dir.withSet (setOf a) ((s.dir.get (setOf a)).withDropped w) }) ∧
      (cacheable = true → ∃ data' : Line,
        (∀ (k : Nat) (h : k < 32), data'[k] = (bytes[k]).getD data[k]) ∧
        s.directorySeesWrite cacheable a bytes =
          { s with
            dir := s.dir.withSet (setOf a)
              { s.dir.get (setOf a) with
                ways := (s.dir.get (setOf a)).ways.set w.val (.valid (tagOf a) data') w.isLt } })

/-- The ends of waits (R28, R53, R132, R135, R136, R141, R153), each by its own row, which does what the event that ends the
wait does (log 17): a write waiting on space is appended; a read waiting on a free entry, or on an empty queue, goes on
by its window and its lookup. The repeated lookup after a free-entry wait counts nothing; the one after an empty-queue
wait counts. Without such a wait the rows change nothing (log 5). The cycle's end is held in the bus interface by the
model's choice (log 12). The transmitter's choice comes last at the event (log 19). -/
def Obligations.WaitsEndAndTheAccessGoesOn : Prop :=
  ∀ (s : State),
    (s.TransmitterLaw →
      ((∀ a, s.bus.access = some a → a.wait ≠ .freeEntry) → exec .readResumesFreeEntry s = .next s) ∧
      ((∀ a, s.bus.access = some a → a.wait ≠ .queueSpace) → exec .writeResumesQueueSpace s = .next s) ∧
      ((∀ a, s.bus.access = some a → a.wait ≠ .queueEmpty) → exec .orderedReadDispatch s = .next s)) ∧
    ∀ a : Access, s.bus.access = some a →
      (∀ kept : BitVec 32, a.wait = .queueSpace → a.direction = .write kept → s.wq.entries.length < 8 →
        (∀ y : WriteEntry, s.wq.entries.getLast? = some y → ¬ y.Takes a) →
        exec .writeResumesQueueSpace s =
          .next (State.transmit (State.directorySeesWrite a.attrs.cacheable (lineOf a.remote)
            (placeBytes (byteOffset a.remote) a.size kept) (s.withAppended a kept)))) ∧
      ∀ (tag : Fin 4) (counted : Bool) (c : Instr), s.reads.LowestFree tag →
        ((c = .readResumesFreeEntry ∧ a.wait = .freeEntry ∧ counted = false) ∨
          (c = .orderedReadDispatch ∧ a.wait = .queueEmpty ∧ s.wq.entries = [] ∧ counted = true)) →
        (a.attrs.cacheable = false → exec c s = .next (State.transmit (s.withWordTaken tag a))) ∧
        (a.attrs.cacheable = true → s.sweep.isRunning = true ∨ s.dir.Misses (lineOf a.remote) →
          exec c s =
            .next (State.transmit
              { ({ s with counters := { s.counters with
                    misses := if counted then countUp s.counters.misses else s.counters.misses } }.withLineTaken
                  tag (lineOf a.remote) .demand a.window true).considerPrefetch a with
                bus := { s.bus with access := some { a with wait := .entryDone } } })) ∧
        (a.attrs.cacheable = true → s.sweep.isRunning = false → s.UniqueLaw → s.TransmitterLaw → ∀ w : Fin 4,
          (∀ data : Line, (s.dir.get (setOf (lineOf a.remote))).ways[w] = .valid (tagOf (lineOf a.remote)) data →
            exec c s =
              .next { s.withHit w data a with
                counters := { s.counters with
                  hits := if counted then countUp s.counters.hits else s.counters.hits } }) ∧
          ∀ (ref : Fin 4) (k : ReadWork) (p : Purpose) (x : Option Target),
            (s.dir.get (setOf (lineOf a.remote))).ways[w] = .filling (tagOf (lineOf a.remote)) ref →
            (s.reads.entries[ref]).work = some k → k.request = .line (lineOf a.remote) p x →
            exec c s =
              .next { s.withJoined ref k x a with
                counters := { s.counters with
                  misses := if counted then countUp s.counters.misses else s.counters.misses } })
end

