-- ==== Sys2Proof/Laws/State.lean ====
section
/-! SUPPORT. The plain updates of the state, one lemma for each field: what the update makes of it, or that it stays. Cite
them instead of unfolding an update. -/

namespace Sys2Proof.Machine

section -- The RECORD flag set (R164)
variable (s : State)
@[simp] theorem State.setRecordFlag_pins : (s.setRecordFlag).pins = s.pins := rfl
@[simp] theorem State.setRecordFlag_bus : (s.setRecordFlag).bus = s.bus := rfl
@[simp] theorem State.setRecordFlag_windows : (s.setRecordFlag).windows = s.windows := rfl
@[simp] theorem State.setRecordFlag_dir : (s.setRecordFlag).dir = s.dir := rfl
@[simp] theorem State.setRecordFlag_reads : (s.setRecordFlag).reads = s.reads := rfl
@[simp] theorem State.setRecordFlag_wq : (s.setRecordFlag).wq = s.wq := rfl
@[simp] theorem State.setRecordFlag_link : (s.setRecordFlag).link = s.link := rfl
@[simp] theorem State.setRecordFlag_notices : (s.setRecordFlag).notices = s.notices := rfl
@[simp] theorem State.setRecordFlag_sweep : (s.setRecordFlag).sweep = s.sweep := rfl
@[simp] theorem State.setRecordFlag_sync : (s.setRecordFlag).sync = s.sync := rfl
@[simp] theorem State.setRecordFlag_records : (s.setRecordFlag).records = s.records := rfl
@[simp] theorem State.setRecordFlag_counters : (s.setRecordFlag).counters = s.counters := rfl
@[simp] theorem State.setRecordFlag_irq :
    (s.setRecordFlag).irq = { s.irq with flags := { s.irq.flags with record := true } } := rfl
@[simp] theorem State.setRecordFlag_cmd : (s.setRecordFlag).cmd = s.cmd := rfl
@[simp] theorem State.setRecordFlag_settings : (s.setRecordFlag).settings = s.settings := rfl
@[simp] theorem State.setRecordFlag_sel : (s.setRecordFlag).sel = s.sel := rfl
@[simp] theorem State.setRecordFlag_pending : (s.setRecordFlag).pending = s.pending := rfl
@[simp] theorem State.setRecordFlag_freeCount : (s.setRecordFlag).freeCount = s.freeCount := rfl
end

section -- The LINK flag set (R164)
variable (s : State)
@[simp] theorem State.setLinkFlag_pins : (s.setLinkFlag).pins = s.pins := rfl
@[simp] theorem State.setLinkFlag_bus : (s.setLinkFlag).bus = s.bus := rfl
@[simp] theorem State.setLinkFlag_windows : (s.setLinkFlag).windows = s.windows := rfl
@[simp] theorem State.setLinkFlag_dir : (s.setLinkFlag).dir = s.dir := rfl
@[simp] theorem State.setLinkFlag_reads : (s.setLinkFlag).reads = s.reads := rfl
@[simp] theorem State.setLinkFlag_wq : (s.setLinkFlag).wq = s.wq := rfl
@[simp] theorem State.setLinkFlag_link : (s.setLinkFlag).link = s.link := rfl
@[simp] theorem State.setLinkFlag_notices : (s.setLinkFlag).notices = s.notices := rfl
@[simp] theorem State.setLinkFlag_sweep : (s.setLinkFlag).sweep = s.sweep := rfl
@[simp] theorem State.setLinkFlag_sync : (s.setLinkFlag).sync = s.sync := rfl
@[simp] theorem State.setLinkFlag_records : (s.setLinkFlag).records = s.records := rfl
@[simp] theorem State.setLinkFlag_counters : (s.setLinkFlag).counters = s.counters := rfl
@[simp] theorem State.setLinkFlag_irq :
    (s.setLinkFlag).irq = { s.irq with flags := { s.irq.flags with link := true } } := rfl
@[simp] theorem State.setLinkFlag_cmd : (s.setLinkFlag).cmd = s.cmd := rfl
@[simp] theorem State.setLinkFlag_settings : (s.setLinkFlag).settings = s.settings := rfl
@[simp] theorem State.setLinkFlag_sel : (s.setLinkFlag).sel = s.sel := rfl
@[simp] theorem State.setLinkFlag_pending : (s.setLinkFlag).pending = s.pending := rfl
@[simp] theorem State.setLinkFlag_freeCount : (s.setLinkFlag).freeCount = s.freeCount := rfl
end

section -- The SYNC flag set (R164)
variable (s : State)
@[simp] theorem State.setSyncFlag_pins : (s.setSyncFlag).pins = s.pins := rfl
@[simp] theorem State.setSyncFlag_bus : (s.setSyncFlag).bus = s.bus := rfl
@[simp] theorem State.setSyncFlag_windows : (s.setSyncFlag).windows = s.windows := rfl
@[simp] theorem State.setSyncFlag_dir : (s.setSyncFlag).dir = s.dir := rfl
@[simp] theorem State.setSyncFlag_reads : (s.setSyncFlag).reads = s.reads := rfl
@[simp] theorem State.setSyncFlag_wq : (s.setSyncFlag).wq = s.wq := rfl
@[simp] theorem State.setSyncFlag_link : (s.setSyncFlag).link = s.link := rfl
@[simp] theorem State.setSyncFlag_notices : (s.setSyncFlag).notices = s.notices := rfl
@[simp] theorem State.setSyncFlag_sweep : (s.setSyncFlag).sweep = s.sweep := rfl
@[simp] theorem State.setSyncFlag_sync : (s.setSyncFlag).sync = s.sync := rfl
@[simp] theorem State.setSyncFlag_records : (s.setSyncFlag).records = s.records := rfl
@[simp] theorem State.setSyncFlag_counters : (s.setSyncFlag).counters = s.counters := rfl
@[simp] theorem State.setSyncFlag_irq :
    (s.setSyncFlag).irq = { s.irq with flags := { s.irq.flags with sync := true } } := rfl
@[simp] theorem State.setSyncFlag_cmd : (s.setSyncFlag).cmd = s.cmd := rfl
@[simp] theorem State.setSyncFlag_settings : (s.setSyncFlag).settings = s.settings := rfl
@[simp] theorem State.setSyncFlag_sel : (s.setSyncFlag).sel = s.sel := rfl
@[simp] theorem State.setSyncFlag_pending : (s.setSyncFlag).pending = s.pending := rfl
@[simp] theorem State.setSyncFlag_freeCount : (s.setSyncFlag).freeCount = s.freeCount := rfl
end

section -- The SWEEP flag set (R164)
variable (s : State)
@[simp] theorem State.setSweepFlag_pins : (s.setSweepFlag).pins = s.pins := rfl
@[simp] theorem State.setSweepFlag_bus : (s.setSweepFlag).bus = s.bus := rfl
@[simp] theorem State.setSweepFlag_windows : (s.setSweepFlag).windows = s.windows := rfl
@[simp] theorem State.setSweepFlag_dir : (s.setSweepFlag).dir = s.dir := rfl
@[simp] theorem State.setSweepFlag_reads : (s.setSweepFlag).reads = s.reads := rfl
@[simp] theorem State.setSweepFlag_wq : (s.setSweepFlag).wq = s.wq := rfl
@[simp] theorem State.setSweepFlag_link : (s.setSweepFlag).link = s.link := rfl
@[simp] theorem State.setSweepFlag_notices : (s.setSweepFlag).notices = s.notices := rfl
@[simp] theorem State.setSweepFlag_sweep : (s.setSweepFlag).sweep = s.sweep := rfl
@[simp] theorem State.setSweepFlag_sync : (s.setSweepFlag).sync = s.sync := rfl
@[simp] theorem State.setSweepFlag_records : (s.setSweepFlag).records = s.records := rfl
@[simp] theorem State.setSweepFlag_counters : (s.setSweepFlag).counters = s.counters := rfl
@[simp] theorem State.setSweepFlag_irq :
    (s.setSweepFlag).irq = { s.irq with flags := { s.irq.flags with sweep := true } } := rfl
@[simp] theorem State.setSweepFlag_cmd : (s.setSweepFlag).cmd = s.cmd := rfl
@[simp] theorem State.setSweepFlag_settings : (s.setSweepFlag).settings = s.settings := rfl
@[simp] theorem State.setSweepFlag_sel : (s.setSweepFlag).sel = s.sel := rfl
@[simp] theorem State.setSweepFlag_pending : (s.setSweepFlag).pending = s.pending := rfl
@[simp] theorem State.setSweepFlag_freeCount : (s.setSweepFlag).freeCount = s.freeCount := rfl
end

section -- A counter incremented (R161)
variable (n : CounterName) (s : State)
@[simp] theorem State.bump_pins : (s.bump n).pins = s.pins := rfl
@[simp] theorem State.bump_bus : (s.bump n).bus = s.bus := rfl
@[simp] theorem State.bump_windows : (s.bump n).windows = s.windows := rfl
@[simp] theorem State.bump_dir : (s.bump n).dir = s.dir := rfl
@[simp] theorem State.bump_reads : (s.bump n).reads = s.reads := rfl
@[simp] theorem State.bump_wq : (s.bump n).wq = s.wq := rfl
@[simp] theorem State.bump_link : (s.bump n).link = s.link := rfl
@[simp] theorem State.bump_notices : (s.bump n).notices = s.notices := rfl
@[simp] theorem State.bump_sweep : (s.bump n).sweep = s.sweep := rfl
@[simp] theorem State.bump_sync : (s.bump n).sync = s.sync := rfl
@[simp] theorem State.bump_records : (s.bump n).records = s.records := rfl
@[simp] theorem State.bump_counters : (s.bump n).counters = s.counters.bump n := rfl
@[simp] theorem State.bump_irq : (s.bump n).irq = s.irq := rfl
@[simp] theorem State.bump_cmd : (s.bump n).cmd = s.cmd := rfl
@[simp] theorem State.bump_settings : (s.bump n).settings = s.settings := rfl
@[simp] theorem State.bump_sel : (s.bump n).sel = s.sel := rfl
@[simp] theorem State.bump_pending : (s.bump n).pending = s.pending := rfl
@[simp] theorem State.bump_freeCount : (s.bump n).freeCount = s.freeCount := rfl
end

section -- The pending-access record written (R126)
variable (a : Access) (s : State)
@[simp] theorem State.setAccess_pins : (s.setAccess a).pins = s.pins := rfl
@[simp] theorem State.setAccess_bus : (s.setAccess a).bus = { s.bus with access := some a } := rfl
@[simp] theorem State.setAccess_windows : (s.setAccess a).windows = s.windows := rfl
@[simp] theorem State.setAccess_dir : (s.setAccess a).dir = s.dir := rfl
@[simp] theorem State.setAccess_reads : (s.setAccess a).reads = s.reads := rfl
@[simp] theorem State.setAccess_wq : (s.setAccess a).wq = s.wq := rfl
@[simp] theorem State.setAccess_link : (s.setAccess a).link = s.link := rfl
@[simp] theorem State.setAccess_notices : (s.setAccess a).notices = s.notices := rfl
@[simp] theorem State.setAccess_sweep : (s.setAccess a).sweep = s.sweep := rfl
@[simp] theorem State.setAccess_sync : (s.setAccess a).sync = s.sync := rfl
@[simp] theorem State.setAccess_records : (s.setAccess a).records = s.records := rfl
@[simp] theorem State.setAccess_counters : (s.setAccess a).counters = s.counters := rfl
@[simp] theorem State.setAccess_irq : (s.setAccess a).irq = s.irq := rfl
@[simp] theorem State.setAccess_cmd : (s.setAccess a).cmd = s.cmd := rfl
@[simp] theorem State.setAccess_settings : (s.setAccess a).settings = s.settings := rfl
@[simp] theorem State.setAccess_sel : (s.setAccess a).sel = s.sel := rfl
@[simp] theorem State.setAccess_pending : (s.setAccess a).pending = s.pending := rfl
@[simp] theorem State.setAccess_freeCount : (s.setAccess a).freeCount = s.freeCount := rfl
end

section -- A read cycle ended (R131)
variable (data : BitVec 32) (e : Bool) (s : State)
@[simp] theorem State.endRead_pins : (s.endRead data e).pins = s.pins := rfl
@[simp] theorem State.endRead_bus :
    (s.endRead data e).bus = { s.bus with access := none, lastEnd := some (.read data e) } := rfl
@[simp] theorem State.endRead_windows : (s.endRead data e).windows = s.windows := rfl
@[simp] theorem State.endRead_dir : (s.endRead data e).dir = s.dir := rfl
@[simp] theorem State.endRead_reads : (s.endRead data e).reads = s.reads := rfl
@[simp] theorem State.endRead_wq : (s.endRead data e).wq = s.wq := rfl
@[simp] theorem State.endRead_link : (s.endRead data e).link = s.link := rfl
@[simp] theorem State.endRead_notices : (s.endRead data e).notices = s.notices := rfl
@[simp] theorem State.endRead_sweep : (s.endRead data e).sweep = s.sweep := rfl
@[simp] theorem State.endRead_sync : (s.endRead data e).sync = s.sync := rfl
@[simp] theorem State.endRead_records : (s.endRead data e).records = s.records := rfl
@[simp] theorem State.endRead_counters : (s.endRead data e).counters = s.counters := rfl
@[simp] theorem State.endRead_irq : (s.endRead data e).irq = s.irq := rfl
@[simp] theorem State.endRead_cmd : (s.endRead data e).cmd = s.cmd := rfl
@[simp] theorem State.endRead_settings : (s.endRead data e).settings = s.settings := rfl
@[simp] theorem State.endRead_sel : (s.endRead data e).sel = s.sel := rfl
@[simp] theorem State.endRead_pending : (s.endRead data e).pending = s.pending := rfl
@[simp] theorem State.endRead_freeCount : (s.endRead data e).freeCount = s.freeCount := rfl
end

section -- A write cycle ended (R131)
variable (e : Bool) (s : State)
@[simp] theorem State.endWrite_pins : (s.endWrite e).pins = s.pins := rfl
@[simp] theorem State.endWrite_bus :
    (s.endWrite e).bus = { s.bus with access := none, lastEnd := some (.write e) } := rfl
@[simp] theorem State.endWrite_windows : (s.endWrite e).windows = s.windows := rfl
@[simp] theorem State.endWrite_dir : (s.endWrite e).dir = s.dir := rfl
@[simp] theorem State.endWrite_reads : (s.endWrite e).reads = s.reads := rfl
@[simp] theorem State.endWrite_wq : (s.endWrite e).wq = s.wq := rfl
@[simp] theorem State.endWrite_link : (s.endWrite e).link = s.link := rfl
@[simp] theorem State.endWrite_notices : (s.endWrite e).notices = s.notices := rfl
@[simp] theorem State.endWrite_sweep : (s.endWrite e).sweep = s.sweep := rfl
@[simp] theorem State.endWrite_sync : (s.endWrite e).sync = s.sync := rfl
@[simp] theorem State.endWrite_records : (s.endWrite e).records = s.records := rfl
@[simp] theorem State.endWrite_counters : (s.endWrite e).counters = s.counters := rfl
@[simp] theorem State.endWrite_irq : (s.endWrite e).irq = s.irq := rfl
@[simp] theorem State.endWrite_cmd : (s.endWrite e).cmd = s.cmd := rfl
@[simp] theorem State.endWrite_settings : (s.endWrite e).settings = s.settings := rfl
@[simp] theorem State.endWrite_sel : (s.endWrite e).sel = s.sel := rfl
@[simp] theorem State.endWrite_pending : (s.endWrite e).pending = s.pending := rfl
@[simp] theorem State.endWrite_freeCount : (s.endWrite e).freeCount = s.freeCount := rfl
end

section -- One set changed
variable (i : SetIndex) (f : CacheSet → CacheSet) (s : State)
@[simp] theorem State.onSet_pins : (s.onSet i f).pins = s.pins := rfl
@[simp] theorem State.onSet_bus : (s.onSet i f).bus = s.bus := rfl
@[simp] theorem State.onSet_windows : (s.onSet i f).windows = s.windows := rfl
@[simp] theorem State.onSet_dir : (s.onSet i f).dir = s.dir.put i (f (s.dir.get i)) := rfl
@[simp] theorem State.onSet_reads : (s.onSet i f).reads = s.reads := rfl
@[simp] theorem State.onSet_wq : (s.onSet i f).wq = s.wq := rfl
@[simp] theorem State.onSet_link : (s.onSet i f).link = s.link := rfl
@[simp] theorem State.onSet_notices : (s.onSet i f).notices = s.notices := rfl
@[simp] theorem State.onSet_sweep : (s.onSet i f).sweep = s.sweep := rfl
@[simp] theorem State.onSet_sync : (s.onSet i f).sync = s.sync := rfl
@[simp] theorem State.onSet_records : (s.onSet i f).records = s.records := rfl
@[simp] theorem State.onSet_counters : (s.onSet i f).counters = s.counters := rfl
@[simp] theorem State.onSet_irq : (s.onSet i f).irq = s.irq := rfl
@[simp] theorem State.onSet_cmd : (s.onSet i f).cmd = s.cmd := rfl
@[simp] theorem State.onSet_settings : (s.onSet i f).settings = s.settings := rfl
@[simp] theorem State.onSet_sel : (s.onSet i f).sel = s.sel := rfl
@[simp] theorem State.onSet_pending : (s.onSet i f).pending = s.pending := rfl
@[simp] theorem State.onSet_freeCount : (s.onSet i f).freeCount = s.freeCount := rfl
end

section -- One window entry replaced
variable (i : Fin 8) (w : Window) (s : State)
@[simp] theorem State.setWindow_pins : (s.setWindow i w).pins = s.pins := rfl
@[simp] theorem State.setWindow_bus : (s.setWindow i w).bus = s.bus := rfl
@[simp] theorem State.setWindow_windows : (s.setWindow i w).windows = s.windows.set i.val w i.isLt := rfl
@[simp] theorem State.setWindow_dir : (s.setWindow i w).dir = s.dir := rfl
@[simp] theorem State.setWindow_reads : (s.setWindow i w).reads = s.reads := rfl
@[simp] theorem State.setWindow_wq : (s.setWindow i w).wq = s.wq := rfl
@[simp] theorem State.setWindow_link : (s.setWindow i w).link = s.link := rfl
@[simp] theorem State.setWindow_notices : (s.setWindow i w).notices = s.notices := rfl
@[simp] theorem State.setWindow_sweep : (s.setWindow i w).sweep = s.sweep := rfl
@[simp] theorem State.setWindow_sync : (s.setWindow i w).sync = s.sync := rfl
@[simp] theorem State.setWindow_records : (s.setWindow i w).records = s.records := rfl
@[simp] theorem State.setWindow_counters : (s.setWindow i w).counters = s.counters := rfl
@[simp] theorem State.setWindow_irq : (s.setWindow i w).irq = s.irq := rfl
@[simp] theorem State.setWindow_cmd : (s.setWindow i w).cmd = s.cmd := rfl
@[simp] theorem State.setWindow_settings : (s.setWindow i w).settings = s.settings := rfl
@[simp] theorem State.setWindow_sel : (s.setWindow i w).sel = s.sel := rfl
@[simp] theorem State.setWindow_pending : (s.setWindow i w).pending = s.pending := rfl
@[simp] theorem State.setWindow_freeCount : (s.setWindow i w).freeCount = s.freeCount := rfl
end

section -- One read entry replaced
variable (tag : Fin 4) (e : ReadEntry) (s : State)
@[simp] theorem State.setEntry_pins : (s.setEntry tag e).pins = s.pins := rfl
@[simp] theorem State.setEntry_bus : (s.setEntry tag e).bus = s.bus := rfl
@[simp] theorem State.setEntry_windows : (s.setEntry tag e).windows = s.windows := rfl
@[simp] theorem State.setEntry_dir : (s.setEntry tag e).dir = s.dir := rfl
@[simp] theorem State.setEntry_reads :
    (s.setEntry tag e).reads = { s.reads with entries := s.reads.entries.set tag.val e tag.isLt } := rfl
@[simp] theorem State.setEntry_wq : (s.setEntry tag e).wq = s.wq := rfl
@[simp] theorem State.setEntry_link : (s.setEntry tag e).link = s.link := rfl
@[simp] theorem State.setEntry_notices : (s.setEntry tag e).notices = s.notices := rfl
@[simp] theorem State.setEntry_sweep : (s.setEntry tag e).sweep = s.sweep := rfl
@[simp] theorem State.setEntry_sync : (s.setEntry tag e).sync = s.sync := rfl
@[simp] theorem State.setEntry_records : (s.setEntry tag e).records = s.records := rfl
@[simp] theorem State.setEntry_counters : (s.setEntry tag e).counters = s.counters := rfl
@[simp] theorem State.setEntry_irq : (s.setEntry tag e).irq = s.irq := rfl
@[simp] theorem State.setEntry_cmd : (s.setEntry tag e).cmd = s.cmd := rfl
@[simp] theorem State.setEntry_settings : (s.setEntry tag e).settings = s.settings := rfl
@[simp] theorem State.setEntry_sel : (s.setEntry tag e).sel = s.sel := rfl
@[simp] theorem State.setEntry_pending : (s.setEntry tag e).pending = s.pending := rfl
@[simp] theorem State.setEntry_freeCount : (s.setEntry tag e).freeCount = s.freeCount := rfl
end

section -- A read entry taken (R28)
variable (tag : Fin 4) (work : ReadWork) (s : State)
@[simp] theorem State.takeEntry_pins : (s.takeEntry tag work).pins = s.pins := rfl
@[simp] theorem State.takeEntry_bus : (s.takeEntry tag work).bus = s.bus := rfl
@[simp] theorem State.takeEntry_windows : (s.takeEntry tag work).windows = s.windows := rfl
@[simp] theorem State.takeEntry_dir : (s.takeEntry tag work).dir = s.dir := rfl
@[simp] theorem State.takeEntry_wq : (s.takeEntry tag work).wq = s.wq := rfl
@[simp] theorem State.takeEntry_link : (s.takeEntry tag work).link = s.link := rfl
@[simp] theorem State.takeEntry_notices : (s.takeEntry tag work).notices = s.notices := rfl
@[simp] theorem State.takeEntry_sweep : (s.takeEntry tag work).sweep = s.sweep := rfl
@[simp] theorem State.takeEntry_sync : (s.takeEntry tag work).sync = s.sync := rfl
@[simp] theorem State.takeEntry_records : (s.takeEntry tag work).records = s.records := rfl
@[simp] theorem State.takeEntry_counters : (s.takeEntry tag work).counters = s.counters := rfl
@[simp] theorem State.takeEntry_irq : (s.takeEntry tag work).irq = s.irq := rfl
@[simp] theorem State.takeEntry_cmd : (s.takeEntry tag work).cmd = s.cmd := rfl
@[simp] theorem State.takeEntry_settings : (s.takeEntry tag work).settings = s.settings := rfl
@[simp] theorem State.takeEntry_sel : (s.takeEntry tag work).sel = s.sel := rfl
@[simp] theorem State.takeEntry_pending : (s.takeEntry tag work).pending = s.pending := rfl
@[simp] theorem State.takeEntry_freeCount : (s.takeEntry tag work).freeCount = s.freeCount := rfl
end

section -- A read entry made wayless (R13)
variable (ref : Fin 4) (s : State)
@[simp] theorem State.releaseEntry_pins : (s.releaseEntry ref).pins = s.pins := rfl
@[simp] theorem State.releaseEntry_bus : (s.releaseEntry ref).bus = s.bus := rfl
@[simp] theorem State.releaseEntry_windows : (s.releaseEntry ref).windows = s.windows := rfl
@[simp] theorem State.releaseEntry_dir : (s.releaseEntry ref).dir = s.dir := rfl
@[simp] theorem State.releaseEntry_reads :
    (s.releaseEntry ref).reads =
      { s.reads with entries := s.reads.entries.set ref.val ((s.reads.entries[ref]).onWork ReadWork.release) ref.isLt } := rfl
@[simp] theorem State.releaseEntry_wq : (s.releaseEntry ref).wq = s.wq := rfl
@[simp] theorem State.releaseEntry_link : (s.releaseEntry ref).link = s.link := rfl
@[simp] theorem State.releaseEntry_notices : (s.releaseEntry ref).notices = s.notices := rfl
@[simp] theorem State.releaseEntry_sweep : (s.releaseEntry ref).sweep = s.sweep := rfl
@[simp] theorem State.releaseEntry_sync : (s.releaseEntry ref).sync = s.sync := rfl
@[simp] theorem State.releaseEntry_records : (s.releaseEntry ref).records = s.records := rfl
@[simp] theorem State.releaseEntry_counters : (s.releaseEntry ref).counters = s.counters := rfl
@[simp] theorem State.releaseEntry_irq : (s.releaseEntry ref).irq = s.irq := rfl
@[simp] theorem State.releaseEntry_cmd : (s.releaseEntry ref).cmd = s.cmd := rfl
@[simp] theorem State.releaseEntry_settings : (s.releaseEntry ref).settings = s.settings := rfl
@[simp] theorem State.releaseEntry_sel : (s.releaseEntry ref).sel = s.sel := rfl
@[simp] theorem State.releaseEntry_pending : (s.releaseEntry ref).pending = s.pending := rfl
@[simp] theorem State.releaseEntry_freeCount : (s.releaseEntry ref).freeCount = s.freeCount := rfl
end

section -- A read entry ended (R34, R37, R44)
variable (tag : Fin 4) (s : State)
@[simp] theorem State.freeUp_pins : (s.freeUp tag).pins = s.pins := rfl
@[simp] theorem State.freeUp_bus : (s.freeUp tag).bus = s.bus := rfl
@[simp] theorem State.freeUp_windows : (s.freeUp tag).windows = s.windows := rfl
@[simp] theorem State.freeUp_dir : (s.freeUp tag).dir = s.dir := rfl
@[simp] theorem State.freeUp_reads :
    (s.freeUp tag).reads =
      { s.reads with entries := s.reads.entries.set tag.val { s.reads.entries[tag] with work := none, timer := .stopped } tag.isLt } := rfl
@[simp] theorem State.freeUp_wq : (s.freeUp tag).wq = s.wq := rfl
@[simp] theorem State.freeUp_link : (s.freeUp tag).link = s.link := rfl
@[simp] theorem State.freeUp_notices : (s.freeUp tag).notices = s.notices := rfl
@[simp] theorem State.freeUp_sweep : (s.freeUp tag).sweep = s.sweep := rfl
@[simp] theorem State.freeUp_sync : (s.freeUp tag).sync = s.sync := rfl
@[simp] theorem State.freeUp_records : (s.freeUp tag).records = s.records := rfl
@[simp] theorem State.freeUp_counters : (s.freeUp tag).counters = s.counters := rfl
@[simp] theorem State.freeUp_irq : (s.freeUp tag).irq = s.irq := rfl
@[simp] theorem State.freeUp_cmd : (s.freeUp tag).cmd = s.cmd := rfl
@[simp] theorem State.freeUp_settings : (s.freeUp tag).settings = s.settings := rfl
@[simp] theorem State.freeUp_sel : (s.freeUp tag).sel = s.sel := rfl
@[simp] theorem State.freeUp_pending : (s.freeUp tag).pending = s.pending := rfl
@[simp] theorem State.freeUp_freeCount : (s.freeUp tag).freeCount = s.freeCount := rfl
end

section -- The JOIN frame taken (R94)
variable (s : State)
@[simp] theorem State.takeJoin_pins : (s.takeJoin).pins = s.pins := rfl
@[simp] theorem State.takeJoin_bus : (s.takeJoin).bus = s.bus := rfl
@[simp] theorem State.takeJoin_windows : (s.takeJoin).windows = s.windows := rfl
@[simp] theorem State.takeJoin_dir : (s.takeJoin).dir = s.dir := rfl
@[simp] theorem State.takeJoin_reads : (s.takeJoin).reads = s.reads := rfl
@[simp] theorem State.takeJoin_wq : (s.takeJoin).wq = s.wq := rfl
@[simp] theorem State.takeJoin_notices : (s.takeJoin).notices = s.notices := rfl
@[simp] theorem State.takeJoin_sweep : (s.takeJoin).sweep = s.sweep := rfl
@[simp] theorem State.takeJoin_sync : (s.takeJoin).sync = s.sync := rfl
@[simp] theorem State.takeJoin_records : (s.takeJoin).records = s.records := rfl
@[simp] theorem State.takeJoin_counters : (s.takeJoin).counters = s.counters := rfl
@[simp] theorem State.takeJoin_irq : (s.takeJoin).irq = s.irq := rfl
@[simp] theorem State.takeJoin_cmd : (s.takeJoin).cmd = s.cmd := rfl
@[simp] theorem State.takeJoin_settings : (s.takeJoin).settings = s.settings := rfl
@[simp] theorem State.takeJoin_sel : (s.takeJoin).sel = s.sel := rfl
@[simp] theorem State.takeJoin_pending : (s.takeJoin).pending = s.pending := rfl
@[simp] theorem State.takeJoin_freeCount : (s.takeJoin).freeCount = s.freeCount := rfl
end

section -- The SYNC frame taken (R148)
variable (s : State)
@[simp] theorem State.takeSync_pins : (s.takeSync).pins = s.pins := rfl
@[simp] theorem State.takeSync_bus : (s.takeSync).bus = s.bus := rfl
@[simp] theorem State.takeSync_windows : (s.takeSync).windows = s.windows := rfl
@[simp] theorem State.takeSync_dir : (s.takeSync).dir = s.dir := rfl
@[simp] theorem State.takeSync_reads : (s.takeSync).reads = s.reads := rfl
@[simp] theorem State.takeSync_wq : (s.takeSync).wq = s.wq := rfl
@[simp] theorem State.takeSync_notices : (s.takeSync).notices = s.notices := rfl
@[simp] theorem State.takeSync_sweep : (s.takeSync).sweep = s.sweep := rfl
@[simp] theorem State.takeSync_sync : (s.takeSync).sync = { s.sync with state := .sent, timer := s.startTimer } := rfl
@[simp] theorem State.takeSync_records : (s.takeSync).records = s.records := rfl
@[simp] theorem State.takeSync_counters : (s.takeSync).counters = s.counters := rfl
@[simp] theorem State.takeSync_irq : (s.takeSync).irq = s.irq := rfl
@[simp] theorem State.takeSync_cmd : (s.takeSync).cmd = s.cmd := rfl
@[simp] theorem State.takeSync_settings : (s.takeSync).settings = s.settings := rfl
@[simp] theorem State.takeSync_sel : (s.takeSync).sel = s.sel := rfl
@[simp] theorem State.takeSync_pending : (s.takeSync).pending = s.pending := rfl
@[simp] theorem State.takeSync_freeCount : (s.takeSync).freeCount = s.freeCount := rfl
end

section -- A join begun (R93, R100)
variable (s : State)
@[simp] theorem State.beginJoin_pins : (s.beginJoin).pins = s.pins := rfl
@[simp] theorem State.beginJoin_bus : (s.beginJoin).bus = s.bus := rfl
@[simp] theorem State.beginJoin_windows : (s.beginJoin).windows = s.windows := rfl
@[simp] theorem State.beginJoin_dir : (s.beginJoin).dir = s.dir := rfl
@[simp] theorem State.beginJoin_reads : (s.beginJoin).reads = s.reads := rfl
@[simp] theorem State.beginJoin_wq : (s.beginJoin).wq = s.wq := rfl
@[simp] theorem State.beginJoin_link :
    (s.beginJoin).link = { s.link with state := .joining, joinRetries := 0#3, joinPending := true } := rfl
@[simp] theorem State.beginJoin_notices : (s.beginJoin).notices = s.notices := rfl
@[simp] theorem State.beginJoin_sweep : (s.beginJoin).sweep = s.sweep := rfl
@[simp] theorem State.beginJoin_sync : (s.beginJoin).sync = s.sync := rfl
@[simp] theorem State.beginJoin_records : (s.beginJoin).records = s.records := rfl
@[simp] theorem State.beginJoin_counters : (s.beginJoin).counters = s.counters := rfl
@[simp] theorem State.beginJoin_irq : (s.beginJoin).irq = s.irq := rfl
@[simp] theorem State.beginJoin_cmd : (s.beginJoin).cmd = s.cmd := rfl
@[simp] theorem State.beginJoin_settings : (s.beginJoin).settings = s.settings := rfl
@[simp] theorem State.beginJoin_sel : (s.beginJoin).sel = s.sel := rfl
@[simp] theorem State.beginJoin_pending : (s.beginJoin).pending = s.pending := rfl
@[simp] theorem State.beginJoin_freeCount : (s.beginJoin).freeCount = s.freeCount := rfl
end

section -- The link made FAILED (R97)
variable (cause : Cause) (s : State)
@[simp] theorem State.linkFailed_pins : (s.linkFailed cause).pins = s.pins := rfl
@[simp] theorem State.linkFailed_bus : (s.linkFailed cause).bus = s.bus := rfl
@[simp] theorem State.linkFailed_windows : (s.linkFailed cause).windows = s.windows := rfl
@[simp] theorem State.linkFailed_dir : (s.linkFailed cause).dir = s.dir := rfl
@[simp] theorem State.linkFailed_reads : (s.linkFailed cause).reads = s.reads := rfl
@[simp] theorem State.linkFailed_wq : (s.linkFailed cause).wq = s.wq := rfl
@[simp] theorem State.linkFailed_link :
    (s.linkFailed cause).link = { s.link with state := .failed, lastCause := some cause } := rfl
@[simp] theorem State.linkFailed_notices : (s.linkFailed cause).notices = s.notices := rfl
@[simp] theorem State.linkFailed_sweep : (s.linkFailed cause).sweep = s.sweep := rfl
@[simp] theorem State.linkFailed_sync : (s.linkFailed cause).sync = s.sync := rfl
@[simp] theorem State.linkFailed_records : (s.linkFailed cause).records = s.records := rfl
@[simp] theorem State.linkFailed_counters : (s.linkFailed cause).counters = s.counters := rfl
@[simp] theorem State.linkFailed_irq : (s.linkFailed cause).irq = s.irq := rfl
@[simp] theorem State.linkFailed_cmd : (s.linkFailed cause).cmd = s.cmd := rfl
@[simp] theorem State.linkFailed_settings : (s.linkFailed cause).settings = s.settings := rfl
@[simp] theorem State.linkFailed_sel : (s.linkFailed cause).sel = s.sel := rfl
@[simp] theorem State.linkFailed_pending : (s.linkFailed cause).pending = s.pending := rfl
@[simp] theorem State.linkFailed_freeCount : (s.linkFailed cause).freeCount = s.freeCount := rfl
end

section -- The quiet timer restarted (R106)
variable (s : State)
@[simp] theorem State.restartQuiet_pins : (s.restartQuiet).pins = s.pins := rfl
@[simp] theorem State.restartQuiet_bus : (s.restartQuiet).bus = s.bus := rfl
@[simp] theorem State.restartQuiet_windows : (s.restartQuiet).windows = s.windows := rfl
@[simp] theorem State.restartQuiet_dir : (s.restartQuiet).dir = s.dir := rfl
@[simp] theorem State.restartQuiet_reads : (s.restartQuiet).reads = s.reads := rfl
@[simp] theorem State.restartQuiet_wq : (s.restartQuiet).wq = s.wq := rfl
@[simp] theorem State.restartQuiet_link : (s.restartQuiet).link = { s.link with quietTimer := s.startQuiet } := rfl
@[simp] theorem State.restartQuiet_notices : (s.restartQuiet).notices = s.notices := rfl
@[simp] theorem State.restartQuiet_sweep : (s.restartQuiet).sweep = s.sweep := rfl
@[simp] theorem State.restartQuiet_sync : (s.restartQuiet).sync = s.sync := rfl
@[simp] theorem State.restartQuiet_records : (s.restartQuiet).records = s.records := rfl
@[simp] theorem State.restartQuiet_counters : (s.restartQuiet).counters = s.counters := rfl
@[simp] theorem State.restartQuiet_irq : (s.restartQuiet).irq = s.irq := rfl
@[simp] theorem State.restartQuiet_cmd : (s.restartQuiet).cmd = s.cmd := rfl
@[simp] theorem State.restartQuiet_settings : (s.restartQuiet).settings = s.settings := rfl
@[simp] theorem State.restartQuiet_sel : (s.restartQuiet).sel = s.sel := rfl
@[simp] theorem State.restartQuiet_pending : (s.restartQuiet).pending = s.pending := rfl
@[simp] theorem State.restartQuiet_freeCount : (s.restartQuiet).freeCount = s.freeCount := rfl
end

section -- The link brought UP (R95)
variable (first : Seq) (s : State)
@[simp] theorem State.joinUp_pins : (s.joinUp first).pins = s.pins := rfl
@[simp] theorem State.joinUp_bus : (s.joinUp first).bus = s.bus := rfl
@[simp] theorem State.joinUp_windows : (s.joinUp first).windows = s.windows := rfl
@[simp] theorem State.joinUp_dir : (s.joinUp first).dir = s.dir := rfl
@[simp] theorem State.joinUp_reads : (s.joinUp first).reads = s.reads := rfl
@[simp] theorem State.joinUp_wq : (s.joinUp first).wq = { s.wq with nws := 0#8, rt := 0#8, lastAssigned := none } := rfl
@[simp] theorem State.joinUp_notices : (s.joinUp first).notices = { expected := first } := rfl
@[simp] theorem State.joinUp_sweep : (s.joinUp first).sweep = s.sweep := rfl
@[simp] theorem State.joinUp_sync : (s.joinUp first).sync = s.sync := rfl
@[simp] theorem State.joinUp_records : (s.joinUp first).records = s.records := rfl
@[simp] theorem State.joinUp_counters : (s.joinUp first).counters = s.counters := rfl
@[simp] theorem State.joinUp_irq :
    (s.joinUp first).irq = { s.irq with flags := { s.irq.flags with link := true } } := rfl
@[simp] theorem State.joinUp_cmd : (s.joinUp first).cmd = s.cmd := rfl
@[simp] theorem State.joinUp_settings : (s.joinUp first).settings = s.settings := rfl
@[simp] theorem State.joinUp_sel : (s.joinUp first).sel = s.sel := rfl
@[simp] theorem State.joinUp_pending : (s.joinUp first).pending = s.pending := rfl
@[simp] theorem State.joinUp_freeCount : (s.joinUp first).freeCount = s.freeCount := rfl
end

section -- A read request resent (R40)
variable (tag : Fin 4) (w : ReadWork) (s : State)
@[simp] theorem State.resendRead_pins : (s.resendRead tag w).pins = s.pins := rfl
@[simp] theorem State.resendRead_bus : (s.resendRead tag w).bus = s.bus := rfl
@[simp] theorem State.resendRead_windows : (s.resendRead tag w).windows = s.windows := rfl
@[simp] theorem State.resendRead_dir : (s.resendRead tag w).dir = s.dir := rfl
@[simp] theorem State.resendRead_wq : (s.resendRead tag w).wq = s.wq := rfl
@[simp] theorem State.resendRead_link : (s.resendRead tag w).link = s.link := rfl
@[simp] theorem State.resendRead_notices : (s.resendRead tag w).notices = s.notices := rfl
@[simp] theorem State.resendRead_sweep : (s.resendRead tag w).sweep = s.sweep := rfl
@[simp] theorem State.resendRead_sync : (s.resendRead tag w).sync = s.sync := rfl
@[simp] theorem State.resendRead_records : (s.resendRead tag w).records = s.records := rfl
@[simp] theorem State.resendRead_counters : (s.resendRead tag w).counters = s.counters.bump .readResends := rfl
@[simp] theorem State.resendRead_irq : (s.resendRead tag w).irq = s.irq := rfl
@[simp] theorem State.resendRead_cmd : (s.resendRead tag w).cmd = s.cmd := rfl
@[simp] theorem State.resendRead_settings : (s.resendRead tag w).settings = s.settings := rfl
@[simp] theorem State.resendRead_sel : (s.resendRead tag w).sel = s.sel := rfl
@[simp] theorem State.resendRead_pending : (s.resendRead tag w).pending = s.pending := rfl
@[simp] theorem State.resendRead_freeCount : (s.resendRead tag w).freeCount = s.freeCount := rfl
end

section -- A go-back replay (R62)
variable (s : State)
@[simp] theorem State.replay_pins : (s.replay).pins = s.pins := rfl
@[simp] theorem State.replay_bus : (s.replay).bus = s.bus := rfl
@[simp] theorem State.replay_windows : (s.replay).windows = s.windows := rfl
@[simp] theorem State.replay_dir : (s.replay).dir = s.dir := rfl
@[simp] theorem State.replay_reads : (s.replay).reads = s.reads := rfl
@[simp] theorem State.replay_link : (s.replay).link = s.link := rfl
@[simp] theorem State.replay_notices : (s.replay).notices = s.notices := rfl
@[simp] theorem State.replay_sweep : (s.replay).sweep = s.sweep := rfl
@[simp] theorem State.replay_sync : (s.replay).sync = s.sync := rfl
@[simp] theorem State.replay_records : (s.replay).records = s.records := rfl
@[simp] theorem State.replay_counters : (s.replay).counters = s.counters.bump .writeReplays := rfl
@[simp] theorem State.replay_irq : (s.replay).irq = s.irq := rfl
@[simp] theorem State.replay_cmd : (s.replay).cmd = s.cmd := rfl
@[simp] theorem State.replay_settings : (s.replay).settings = s.settings := rfl
@[simp] theorem State.replay_sel : (s.replay).sel = s.sel := rfl
@[simp] theorem State.replay_pending : (s.replay).pending = s.pending := rfl
@[simp] theorem State.replay_freeCount : (s.replay).freeCount = s.freeCount := rfl
end

section -- A barrier resent (R151)
variable (s : State)
@[simp] theorem State.resendSync_pins : (s.resendSync).pins = s.pins := rfl
@[simp] theorem State.resendSync_bus : (s.resendSync).bus = s.bus := rfl
@[simp] theorem State.resendSync_windows : (s.resendSync).windows = s.windows := rfl
@[simp] theorem State.resendSync_dir : (s.resendSync).dir = s.dir := rfl
@[simp] theorem State.resendSync_reads : (s.resendSync).reads = s.reads := rfl
@[simp] theorem State.resendSync_wq : (s.resendSync).wq = s.wq := rfl
@[simp] theorem State.resendSync_link : (s.resendSync).link = s.link := rfl
@[simp] theorem State.resendSync_notices : (s.resendSync).notices = s.notices := rfl
@[simp] theorem State.resendSync_sweep : (s.resendSync).sweep = s.sweep := rfl
@[simp] theorem State.resendSync_records : (s.resendSync).records = s.records := rfl
@[simp] theorem State.resendSync_counters : (s.resendSync).counters = s.counters := rfl
@[simp] theorem State.resendSync_irq : (s.resendSync).irq = s.irq := rfl
@[simp] theorem State.resendSync_cmd : (s.resendSync).cmd = s.cmd := rfl
@[simp] theorem State.resendSync_settings : (s.resendSync).settings = s.settings := rfl
@[simp] theorem State.resendSync_sel : (s.resendSync).sel = s.sel := rfl
@[simp] theorem State.resendSync_pending : (s.resendSync).pending = s.pending := rfl
@[simp] theorem State.resendSync_freeCount : (s.resendSync).freeCount = s.freeCount := rfl
end

section -- A JOIN resent (R94)
variable (s : State)
@[simp] theorem State.resendJoin_pins : (s.resendJoin).pins = s.pins := rfl
@[simp] theorem State.resendJoin_bus : (s.resendJoin).bus = s.bus := rfl
@[simp] theorem State.resendJoin_windows : (s.resendJoin).windows = s.windows := rfl
@[simp] theorem State.resendJoin_dir : (s.resendJoin).dir = s.dir := rfl
@[simp] theorem State.resendJoin_reads : (s.resendJoin).reads = s.reads := rfl
@[simp] theorem State.resendJoin_wq : (s.resendJoin).wq = s.wq := rfl
@[simp] theorem State.resendJoin_notices : (s.resendJoin).notices = s.notices := rfl
@[simp] theorem State.resendJoin_sweep : (s.resendJoin).sweep = s.sweep := rfl
@[simp] theorem State.resendJoin_sync : (s.resendJoin).sync = s.sync := rfl
@[simp] theorem State.resendJoin_records : (s.resendJoin).records = s.records := rfl
@[simp] theorem State.resendJoin_counters : (s.resendJoin).counters = s.counters := rfl
@[simp] theorem State.resendJoin_irq : (s.resendJoin).irq = s.irq := rfl
@[simp] theorem State.resendJoin_cmd : (s.resendJoin).cmd = s.cmd := rfl
@[simp] theorem State.resendJoin_settings : (s.resendJoin).settings = s.settings := rfl
@[simp] theorem State.resendJoin_sel : (s.resendJoin).sel = s.sel := rfl
@[simp] theorem State.resendJoin_pending : (s.resendJoin).pending = s.pending := rfl
@[simp] theorem State.resendJoin_freeCount : (s.resendJoin).freeCount = s.freeCount := rfl
end

section -- The command status set (R173)
variable (status : CommandStatus) (s : State)
@[simp] theorem State.setStatus_pins : (s.setStatus status).pins = s.pins := rfl
@[simp] theorem State.setStatus_bus : (s.setStatus status).bus = s.bus := rfl
@[simp] theorem State.setStatus_windows : (s.setStatus status).windows = s.windows := rfl
@[simp] theorem State.setStatus_dir : (s.setStatus status).dir = s.dir := rfl
@[simp] theorem State.setStatus_reads : (s.setStatus status).reads = s.reads := rfl
@[simp] theorem State.setStatus_wq : (s.setStatus status).wq = s.wq := rfl
@[simp] theorem State.setStatus_link : (s.setStatus status).link = s.link := rfl
@[simp] theorem State.setStatus_notices : (s.setStatus status).notices = s.notices := rfl
@[simp] theorem State.setStatus_sweep : (s.setStatus status).sweep = s.sweep := rfl
@[simp] theorem State.setStatus_sync : (s.setStatus status).sync = s.sync := rfl
@[simp] theorem State.setStatus_records : (s.setStatus status).records = s.records := rfl
@[simp] theorem State.setStatus_counters : (s.setStatus status).counters = s.counters := rfl
@[simp] theorem State.setStatus_irq : (s.setStatus status).irq = s.irq := rfl
@[simp] theorem State.setStatus_cmd : (s.setStatus status).cmd = { s.cmd with status := status } := rfl
@[simp] theorem State.setStatus_settings : (s.setStatus status).settings = s.settings := rfl
@[simp] theorem State.setStatus_sel : (s.setStatus status).sel = s.sel := rfl
@[simp] theorem State.setStatus_pending : (s.setStatus status).pending = s.pending := rfl
@[simp] theorem State.setStatus_freeCount : (s.setStatus status).freeCount = s.freeCount := rfl
end

section -- A barrier accepted (R146)
variable (s : State)
@[simp] theorem State.acceptBarrier_pins : (s.acceptBarrier).pins = s.pins := rfl
@[simp] theorem State.acceptBarrier_bus : (s.acceptBarrier).bus = s.bus := rfl
@[simp] theorem State.acceptBarrier_windows : (s.acceptBarrier).windows = s.windows := rfl
@[simp] theorem State.acceptBarrier_dir : (s.acceptBarrier).dir = s.dir := rfl
@[simp] theorem State.acceptBarrier_reads : (s.acceptBarrier).reads = s.reads := rfl
@[simp] theorem State.acceptBarrier_wq :
    (s.acceptBarrier).wq = { s.wq with entries := markYoungest s.wq.entries } := rfl
@[simp] theorem State.acceptBarrier_link : (s.acceptBarrier).link = s.link := rfl
@[simp] theorem State.acceptBarrier_notices : (s.acceptBarrier).notices = s.notices := rfl
@[simp] theorem State.acceptBarrier_sweep : (s.acceptBarrier).sweep = s.sweep := rfl
@[simp] theorem State.acceptBarrier_sync : (s.acceptBarrier).sync = acceptedSync s.wq s.sync := rfl
@[simp] theorem State.acceptBarrier_records : (s.acceptBarrier).records = s.records := rfl
@[simp] theorem State.acceptBarrier_counters : (s.acceptBarrier).counters = s.counters := rfl
@[simp] theorem State.acceptBarrier_irq : (s.acceptBarrier).irq = s.irq := rfl
@[simp] theorem State.acceptBarrier_cmd : (s.acceptBarrier).cmd = s.cmd := rfl
@[simp] theorem State.acceptBarrier_settings : (s.acceptBarrier).settings = s.settings := rfl
@[simp] theorem State.acceptBarrier_sel : (s.acceptBarrier).sel = s.sel := rfl
@[simp] theorem State.acceptBarrier_pending : (s.acceptBarrier).pending = s.pending := rfl
@[simp] theorem State.acceptBarrier_freeCount : (s.acceptBarrier).freeCount = s.freeCount := rfl
end

end Sys2Proof.Machine
end

