-- ==== Sys2Proof/Laws/Frame.lean ====
section
/-! SUPPORT. What each shared operation can change: its frame, an equation that says the state after it is the state before with
the named fields alone replaced, and from it one lemma for each field that stays. Cite them instead of unfolding an
operation. -/

namespace Sys2Proof.Machine

section
variable (counted : Bool) (n : CounterName) (s : State)
/-- A counter incremented if asked to (R162). -/
theorem State.bumpIf_frame : s.bumpIf counted n = { s with counters := (s.bumpIf counted n).counters } := by
  unfold State.bumpIf
  repeat' split
  all_goals rfl

@[simp] theorem State.bumpIf_pins : (s.bumpIf counted n).pins = s.pins := by rw [State.bumpIf_frame]
@[simp] theorem State.bumpIf_bus : (s.bumpIf counted n).bus = s.bus := by rw [State.bumpIf_frame]
@[simp] theorem State.bumpIf_windows : (s.bumpIf counted n).windows = s.windows := by rw [State.bumpIf_frame]
@[simp] theorem State.bumpIf_dir : (s.bumpIf counted n).dir = s.dir := by rw [State.bumpIf_frame]
@[simp] theorem State.bumpIf_reads : (s.bumpIf counted n).reads = s.reads := by rw [State.bumpIf_frame]
@[simp] theorem State.bumpIf_wq : (s.bumpIf counted n).wq = s.wq := by rw [State.bumpIf_frame]
@[simp] theorem State.bumpIf_link : (s.bumpIf counted n).link = s.link := by rw [State.bumpIf_frame]
@[simp] theorem State.bumpIf_notices : (s.bumpIf counted n).notices = s.notices := by rw [State.bumpIf_frame]
@[simp] theorem State.bumpIf_sweep : (s.bumpIf counted n).sweep = s.sweep := by rw [State.bumpIf_frame]
@[simp] theorem State.bumpIf_sync : (s.bumpIf counted n).sync = s.sync := by rw [State.bumpIf_frame]
@[simp] theorem State.bumpIf_records : (s.bumpIf counted n).records = s.records := by rw [State.bumpIf_frame]
@[simp] theorem State.bumpIf_irq : (s.bumpIf counted n).irq = s.irq := by rw [State.bumpIf_frame]
@[simp] theorem State.bumpIf_cmd : (s.bumpIf counted n).cmd = s.cmd := by rw [State.bumpIf_frame]
@[simp] theorem State.bumpIf_settings : (s.bumpIf counted n).settings = s.settings := by rw [State.bumpIf_frame]
@[simp] theorem State.bumpIf_sel : (s.bumpIf counted n).sel = s.sel := by rw [State.bumpIf_frame]
@[simp] theorem State.bumpIf_pending : (s.bumpIf counted n).pending = s.pending := by rw [State.bumpIf_frame]
@[simp] theorem State.bumpIf_freeCount : (s.bumpIf counted n).freeCount = s.freeCount := by rw [State.bumpIf_frame]
end

section
variable (r : ErrorRecord) (s : State)
/-- A record handed to the record queue (R157). -/
theorem State.handRecord_frame :
    s.handRecord r =
      { s with records := (s.handRecord r).records, irq := (s.handRecord r).irq } := by
  unfold State.handRecord
  repeat' split
  all_goals rfl

@[simp] theorem State.handRecord_pins : (s.handRecord r).pins = s.pins := by rw [State.handRecord_frame]
@[simp] theorem State.handRecord_bus : (s.handRecord r).bus = s.bus := by rw [State.handRecord_frame]
@[simp] theorem State.handRecord_windows : (s.handRecord r).windows = s.windows := by rw [State.handRecord_frame]
@[simp] theorem State.handRecord_dir : (s.handRecord r).dir = s.dir := by rw [State.handRecord_frame]
@[simp] theorem State.handRecord_reads : (s.handRecord r).reads = s.reads := by rw [State.handRecord_frame]
@[simp] theorem State.handRecord_wq : (s.handRecord r).wq = s.wq := by rw [State.handRecord_frame]
@[simp] theorem State.handRecord_link : (s.handRecord r).link = s.link := by rw [State.handRecord_frame]
@[simp] theorem State.handRecord_notices : (s.handRecord r).notices = s.notices := by rw [State.handRecord_frame]
@[simp] theorem State.handRecord_sweep : (s.handRecord r).sweep = s.sweep := by rw [State.handRecord_frame]
@[simp] theorem State.handRecord_sync : (s.handRecord r).sync = s.sync := by rw [State.handRecord_frame]
@[simp] theorem State.handRecord_counters : (s.handRecord r).counters = s.counters := by rw [State.handRecord_frame]
@[simp] theorem State.handRecord_cmd : (s.handRecord r).cmd = s.cmd := by rw [State.handRecord_frame]
@[simp] theorem State.handRecord_settings : (s.handRecord r).settings = s.settings := by rw [State.handRecord_frame]
@[simp] theorem State.handRecord_sel : (s.handRecord r).sel = s.sel := by rw [State.handRecord_frame]
@[simp] theorem State.handRecord_pending : (s.handRecord r).pending = s.pending := by rw [State.handRecord_frame]
@[simp] theorem State.handRecord_freeCount : (s.handRecord r).freeCount = s.freeCount := by rw [State.handRecord_frame]
end

section
variable (s : State)
/-- A pending access ended at teardown (R143). -/
theorem State.endAtTeardown_frame : s.endAtTeardown = { s with bus := (s.endAtTeardown).bus } := by
  unfold State.endAtTeardown
  repeat' split
  all_goals rfl

@[simp] theorem State.endAtTeardown_pins : (s.endAtTeardown).pins = s.pins := by rw [State.endAtTeardown_frame]
@[simp] theorem State.endAtTeardown_windows : (s.endAtTeardown).windows = s.windows := by rw [State.endAtTeardown_frame]
@[simp] theorem State.endAtTeardown_dir : (s.endAtTeardown).dir = s.dir := by rw [State.endAtTeardown_frame]
@[simp] theorem State.endAtTeardown_reads : (s.endAtTeardown).reads = s.reads := by rw [State.endAtTeardown_frame]
@[simp] theorem State.endAtTeardown_wq : (s.endAtTeardown).wq = s.wq := by rw [State.endAtTeardown_frame]
@[simp] theorem State.endAtTeardown_link : (s.endAtTeardown).link = s.link := by rw [State.endAtTeardown_frame]
@[simp] theorem State.endAtTeardown_notices : (s.endAtTeardown).notices = s.notices := by rw [State.endAtTeardown_frame]
@[simp] theorem State.endAtTeardown_sweep : (s.endAtTeardown).sweep = s.sweep := by rw [State.endAtTeardown_frame]
@[simp] theorem State.endAtTeardown_sync : (s.endAtTeardown).sync = s.sync := by rw [State.endAtTeardown_frame]
@[simp] theorem State.endAtTeardown_records : (s.endAtTeardown).records = s.records := by rw [State.endAtTeardown_frame]
@[simp] theorem State.endAtTeardown_counters :
    (s.endAtTeardown).counters = s.counters := by rw [State.endAtTeardown_frame]
@[simp] theorem State.endAtTeardown_irq : (s.endAtTeardown).irq = s.irq := by rw [State.endAtTeardown_frame]
@[simp] theorem State.endAtTeardown_cmd : (s.endAtTeardown).cmd = s.cmd := by rw [State.endAtTeardown_frame]
@[simp] theorem State.endAtTeardown_settings :
    (s.endAtTeardown).settings = s.settings := by rw [State.endAtTeardown_frame]
@[simp] theorem State.endAtTeardown_sel : (s.endAtTeardown).sel = s.sel := by rw [State.endAtTeardown_frame]
@[simp] theorem State.endAtTeardown_pending : (s.endAtTeardown).pending = s.pending := by rw [State.endAtTeardown_frame]
@[simp] theorem State.endAtTeardown_freeCount :
    (s.endAtTeardown).freeCount = s.freeCount := by rw [State.endAtTeardown_frame]
end

section
variable (target : Option Target) (s : State)
/-- A fill that failed (R12). -/
theorem State.failFill_frame : s.failFill target = { s with dir := (s.failFill target).dir } := by
  cases target <;> rfl

@[simp] theorem State.failFill_pins : (s.failFill target).pins = s.pins := by rw [State.failFill_frame]
@[simp] theorem State.failFill_bus : (s.failFill target).bus = s.bus := by rw [State.failFill_frame]
@[simp] theorem State.failFill_windows : (s.failFill target).windows = s.windows := by rw [State.failFill_frame]
@[simp] theorem State.failFill_reads : (s.failFill target).reads = s.reads := by rw [State.failFill_frame]
@[simp] theorem State.failFill_wq : (s.failFill target).wq = s.wq := by rw [State.failFill_frame]
@[simp] theorem State.failFill_link : (s.failFill target).link = s.link := by rw [State.failFill_frame]
@[simp] theorem State.failFill_notices : (s.failFill target).notices = s.notices := by rw [State.failFill_frame]
@[simp] theorem State.failFill_sweep : (s.failFill target).sweep = s.sweep := by rw [State.failFill_frame]
@[simp] theorem State.failFill_sync : (s.failFill target).sync = s.sync := by rw [State.failFill_frame]
@[simp] theorem State.failFill_records : (s.failFill target).records = s.records := by rw [State.failFill_frame]
@[simp] theorem State.failFill_counters : (s.failFill target).counters = s.counters := by rw [State.failFill_frame]
@[simp] theorem State.failFill_irq : (s.failFill target).irq = s.irq := by rw [State.failFill_frame]
@[simp] theorem State.failFill_cmd : (s.failFill target).cmd = s.cmd := by rw [State.failFill_frame]
@[simp] theorem State.failFill_settings : (s.failFill target).settings = s.settings := by rw [State.failFill_frame]
@[simp] theorem State.failFill_sel : (s.failFill target).sel = s.sel := by rw [State.failFill_frame]
@[simp] theorem State.failFill_pending : (s.failFill target).pending = s.pending := by rw [State.failFill_frame]
@[simp] theorem State.failFill_freeCount : (s.failFill target).freeCount = s.freeCount := by rw [State.failFill_frame]
end

section
variable (line : LineAddr) (ref : Fin 4) (victim : Option (Fin 4)) (s : State)
/-- A victim claimed (R9). -/
theorem State.claim_frame : s.claim line ref victim = { s with dir := (s.claim line ref victim).dir } := by
  cases victim <;> rfl

@[simp] theorem State.claim_pins : (s.claim line ref victim).pins = s.pins := by rw [State.claim_frame]
@[simp] theorem State.claim_bus : (s.claim line ref victim).bus = s.bus := by rw [State.claim_frame]
@[simp] theorem State.claim_windows : (s.claim line ref victim).windows = s.windows := by rw [State.claim_frame]
@[simp] theorem State.claim_reads : (s.claim line ref victim).reads = s.reads := by rw [State.claim_frame]
@[simp] theorem State.claim_wq : (s.claim line ref victim).wq = s.wq := by rw [State.claim_frame]
@[simp] theorem State.claim_link : (s.claim line ref victim).link = s.link := by rw [State.claim_frame]
@[simp] theorem State.claim_notices : (s.claim line ref victim).notices = s.notices := by rw [State.claim_frame]
@[simp] theorem State.claim_sweep : (s.claim line ref victim).sweep = s.sweep := by rw [State.claim_frame]
@[simp] theorem State.claim_sync : (s.claim line ref victim).sync = s.sync := by rw [State.claim_frame]
@[simp] theorem State.claim_records : (s.claim line ref victim).records = s.records := by rw [State.claim_frame]
@[simp] theorem State.claim_counters : (s.claim line ref victim).counters = s.counters := by rw [State.claim_frame]
@[simp] theorem State.claim_irq : (s.claim line ref victim).irq = s.irq := by rw [State.claim_frame]
@[simp] theorem State.claim_cmd : (s.claim line ref victim).cmd = s.cmd := by rw [State.claim_frame]
@[simp] theorem State.claim_settings : (s.claim line ref victim).settings = s.settings := by rw [State.claim_frame]
@[simp] theorem State.claim_sel : (s.claim line ref victim).sel = s.sel := by rw [State.claim_frame]
@[simp] theorem State.claim_pending : (s.claim line ref victim).pending = s.pending := by rw [State.claim_frame]
@[simp] theorem State.claim_freeCount : (s.claim line ref victim).freeCount = s.freeCount := by rw [State.claim_frame]
end

section
variable (target : Option Target) (buffer : Line) (s : State)
/-- A buffer installed (R11). -/
theorem State.installFill_frame :
    s.installFill target buffer =
      { s with dir := (s.installFill target buffer).dir } := by
  cases target <;> rfl

@[simp] theorem State.installFill_pins : (s.installFill target buffer).pins = s.pins := by rw [State.installFill_frame]
@[simp] theorem State.installFill_bus : (s.installFill target buffer).bus = s.bus := by rw [State.installFill_frame]
@[simp] theorem State.installFill_windows :
    (s.installFill target buffer).windows = s.windows := by rw [State.installFill_frame]
@[simp] theorem State.installFill_reads :
    (s.installFill target buffer).reads = s.reads := by rw [State.installFill_frame]
@[simp] theorem State.installFill_wq : (s.installFill target buffer).wq = s.wq := by rw [State.installFill_frame]
@[simp] theorem State.installFill_link : (s.installFill target buffer).link = s.link := by rw [State.installFill_frame]
@[simp] theorem State.installFill_notices :
    (s.installFill target buffer).notices = s.notices := by rw [State.installFill_frame]
@[simp] theorem State.installFill_sweep :
    (s.installFill target buffer).sweep = s.sweep := by rw [State.installFill_frame]
@[simp] theorem State.installFill_sync : (s.installFill target buffer).sync = s.sync := by rw [State.installFill_frame]
@[simp] theorem State.installFill_records :
    (s.installFill target buffer).records = s.records := by rw [State.installFill_frame]
@[simp] theorem State.installFill_counters :
    (s.installFill target buffer).counters = s.counters := by rw [State.installFill_frame]
@[simp] theorem State.installFill_irq : (s.installFill target buffer).irq = s.irq := by rw [State.installFill_frame]
@[simp] theorem State.installFill_cmd : (s.installFill target buffer).cmd = s.cmd := by rw [State.installFill_frame]
@[simp] theorem State.installFill_settings :
    (s.installFill target buffer).settings = s.settings := by rw [State.installFill_frame]
@[simp] theorem State.installFill_sel : (s.installFill target buffer).sel = s.sel := by rw [State.installFill_frame]
@[simp] theorem State.installFill_pending :
    (s.installFill target buffer).pending = s.pending := by rw [State.installFill_frame]
@[simp] theorem State.installFill_freeCount :
    (s.installFill target buffer).freeCount = s.freeCount := by rw [State.installFill_frame]
end

section
variable (line : LineAddr) (s : State)
/-- A VALID way invalidated (R14). -/
theorem State.invalidateValid_frame : s.invalidateValid line = { s with dir := (s.invalidateValid line).dir } := by
  unfold State.invalidateValid
  repeat' split
  all_goals rfl

@[simp] theorem State.invalidateValid_pins :
    (s.invalidateValid line).pins = s.pins := by rw [State.invalidateValid_frame]
@[simp] theorem State.invalidateValid_bus : (s.invalidateValid line).bus = s.bus := by rw [State.invalidateValid_frame]
@[simp] theorem State.invalidateValid_windows :
    (s.invalidateValid line).windows = s.windows := by rw [State.invalidateValid_frame]
@[simp] theorem State.invalidateValid_reads :
    (s.invalidateValid line).reads = s.reads := by rw [State.invalidateValid_frame]
@[simp] theorem State.invalidateValid_wq : (s.invalidateValid line).wq = s.wq := by rw [State.invalidateValid_frame]
@[simp] theorem State.invalidateValid_link :
    (s.invalidateValid line).link = s.link := by rw [State.invalidateValid_frame]
@[simp] theorem State.invalidateValid_notices :
    (s.invalidateValid line).notices = s.notices := by rw [State.invalidateValid_frame]
@[simp] theorem State.invalidateValid_sweep :
    (s.invalidateValid line).sweep = s.sweep := by rw [State.invalidateValid_frame]
@[simp] theorem State.invalidateValid_sync :
    (s.invalidateValid line).sync = s.sync := by rw [State.invalidateValid_frame]
@[simp] theorem State.invalidateValid_records :
    (s.invalidateValid line).records = s.records := by rw [State.invalidateValid_frame]
@[simp] theorem State.invalidateValid_counters :
    (s.invalidateValid line).counters = s.counters := by rw [State.invalidateValid_frame]
@[simp] theorem State.invalidateValid_irq : (s.invalidateValid line).irq = s.irq := by rw [State.invalidateValid_frame]
@[simp] theorem State.invalidateValid_cmd : (s.invalidateValid line).cmd = s.cmd := by rw [State.invalidateValid_frame]
@[simp] theorem State.invalidateValid_settings :
    (s.invalidateValid line).settings = s.settings := by rw [State.invalidateValid_frame]
@[simp] theorem State.invalidateValid_sel : (s.invalidateValid line).sel = s.sel := by rw [State.invalidateValid_frame]
@[simp] theorem State.invalidateValid_pending :
    (s.invalidateValid line).pending = s.pending := by rw [State.invalidateValid_frame]
@[simp] theorem State.invalidateValid_freeCount :
    (s.invalidateValid line).freeCount = s.freeCount := by rw [State.invalidateValid_frame]
end

section
variable (cacheable : Bool) (line : LineAddr) (bytes : MaskedLine) (s : State)
/-- A write seen by the directory (R15, R16). -/
theorem State.directorySeesWrite_frame :
    s.directorySeesWrite cacheable line bytes =
      { s with dir := (s.directorySeesWrite cacheable line bytes).dir } := by
  unfold State.directorySeesWrite
  repeat' split
  all_goals first | rfl | exact State.invalidateValid_frame _ _

@[simp] theorem State.directorySeesWrite_pins :
    (s.directorySeesWrite cacheable line bytes).pins = s.pins := by rw [State.directorySeesWrite_frame]
@[simp] theorem State.directorySeesWrite_bus :
    (s.directorySeesWrite cacheable line bytes).bus = s.bus := by rw [State.directorySeesWrite_frame]
@[simp] theorem State.directorySeesWrite_windows :
    (s.directorySeesWrite cacheable line bytes).windows = s.windows := by rw [State.directorySeesWrite_frame]
@[simp] theorem State.directorySeesWrite_reads :
    (s.directorySeesWrite cacheable line bytes).reads = s.reads := by rw [State.directorySeesWrite_frame]
@[simp] theorem State.directorySeesWrite_wq :
    (s.directorySeesWrite cacheable line bytes).wq = s.wq := by rw [State.directorySeesWrite_frame]
@[simp] theorem State.directorySeesWrite_link :
    (s.directorySeesWrite cacheable line bytes).link = s.link := by rw [State.directorySeesWrite_frame]
@[simp] theorem State.directorySeesWrite_notices :
    (s.directorySeesWrite cacheable line bytes).notices = s.notices := by rw [State.directorySeesWrite_frame]
@[simp] theorem State.directorySeesWrite_sweep :
    (s.directorySeesWrite cacheable line bytes).sweep = s.sweep := by rw [State.directorySeesWrite_frame]
@[simp] theorem State.directorySeesWrite_sync :
    (s.directorySeesWrite cacheable line bytes).sync = s.sync := by rw [State.directorySeesWrite_frame]
@[simp] theorem State.directorySeesWrite_records :
    (s.directorySeesWrite cacheable line bytes).records = s.records := by rw [State.directorySeesWrite_frame]
@[simp] theorem State.directorySeesWrite_counters :
    (s.directorySeesWrite cacheable line bytes).counters = s.counters := by rw [State.directorySeesWrite_frame]
@[simp] theorem State.directorySeesWrite_irq :
    (s.directorySeesWrite cacheable line bytes).irq = s.irq := by rw [State.directorySeesWrite_frame]
@[simp] theorem State.directorySeesWrite_cmd :
    (s.directorySeesWrite cacheable line bytes).cmd = s.cmd := by rw [State.directorySeesWrite_frame]
@[simp] theorem State.directorySeesWrite_settings :
    (s.directorySeesWrite cacheable line bytes).settings = s.settings := by rw [State.directorySeesWrite_frame]
@[simp] theorem State.directorySeesWrite_sel :
    (s.directorySeesWrite cacheable line bytes).sel = s.sel := by rw [State.directorySeesWrite_frame]
@[simp] theorem State.directorySeesWrite_pending :
    (s.directorySeesWrite cacheable line bytes).pending = s.pending := by rw [State.directorySeesWrite_frame]
@[simp] theorem State.directorySeesWrite_freeCount :
    (s.directorySeesWrite cacheable line bytes).freeCount = s.freeCount := by rw [State.directorySeesWrite_frame]
end

section
variable (line : LineAddr) (s : State)
/-- A line dropped (R14). -/
theorem State.dropLine_frame :
    s.dropLine line =
      { s with dir := (s.dropLine line).dir, reads := (s.dropLine line).reads } := by
  unfold State.dropLine
  repeat' split
  all_goals rfl

@[simp] theorem State.dropLine_pins : (s.dropLine line).pins = s.pins := by rw [State.dropLine_frame]
@[simp] theorem State.dropLine_bus : (s.dropLine line).bus = s.bus := by rw [State.dropLine_frame]
@[simp] theorem State.dropLine_windows : (s.dropLine line).windows = s.windows := by rw [State.dropLine_frame]
@[simp] theorem State.dropLine_wq : (s.dropLine line).wq = s.wq := by rw [State.dropLine_frame]
@[simp] theorem State.dropLine_link : (s.dropLine line).link = s.link := by rw [State.dropLine_frame]
@[simp] theorem State.dropLine_notices : (s.dropLine line).notices = s.notices := by rw [State.dropLine_frame]
@[simp] theorem State.dropLine_sweep : (s.dropLine line).sweep = s.sweep := by rw [State.dropLine_frame]
@[simp] theorem State.dropLine_sync : (s.dropLine line).sync = s.sync := by rw [State.dropLine_frame]
@[simp] theorem State.dropLine_records : (s.dropLine line).records = s.records := by rw [State.dropLine_frame]
@[simp] theorem State.dropLine_counters : (s.dropLine line).counters = s.counters := by rw [State.dropLine_frame]
@[simp] theorem State.dropLine_irq : (s.dropLine line).irq = s.irq := by rw [State.dropLine_frame]
@[simp] theorem State.dropLine_cmd : (s.dropLine line).cmd = s.cmd := by rw [State.dropLine_frame]
@[simp] theorem State.dropLine_settings : (s.dropLine line).settings = s.settings := by rw [State.dropLine_frame]
@[simp] theorem State.dropLine_sel : (s.dropLine line).sel = s.sel := by rw [State.dropLine_frame]
@[simp] theorem State.dropLine_pending : (s.dropLine line).pending = s.pending := by rw [State.dropLine_frame]
@[simp] theorem State.dropLine_freeCount : (s.dropLine line).freeCount = s.freeCount := by rw [State.dropLine_frame]
end

section
variable (tag : Fin 4) (rest : List (Fin 4)) (s : State)
/-- A read request taken by the transmitter (R27). -/
theorem State.takeRead_frame :
    s.takeRead tag rest =
      { s with reads := (s.takeRead tag rest).reads, link := (s.takeRead tag rest).link } := by
  unfold State.takeRead
  dsimp only
  repeat' split
  all_goals rfl

@[simp] theorem State.takeRead_pins : (s.takeRead tag rest).pins = s.pins := by rw [State.takeRead_frame]
@[simp] theorem State.takeRead_bus : (s.takeRead tag rest).bus = s.bus := by rw [State.takeRead_frame]
@[simp] theorem State.takeRead_windows : (s.takeRead tag rest).windows = s.windows := by rw [State.takeRead_frame]
@[simp] theorem State.takeRead_dir : (s.takeRead tag rest).dir = s.dir := by rw [State.takeRead_frame]
@[simp] theorem State.takeRead_wq : (s.takeRead tag rest).wq = s.wq := by rw [State.takeRead_frame]
@[simp] theorem State.takeRead_notices : (s.takeRead tag rest).notices = s.notices := by rw [State.takeRead_frame]
@[simp] theorem State.takeRead_sweep : (s.takeRead tag rest).sweep = s.sweep := by rw [State.takeRead_frame]
@[simp] theorem State.takeRead_sync : (s.takeRead tag rest).sync = s.sync := by rw [State.takeRead_frame]
@[simp] theorem State.takeRead_records : (s.takeRead tag rest).records = s.records := by rw [State.takeRead_frame]
@[simp] theorem State.takeRead_counters : (s.takeRead tag rest).counters = s.counters := by rw [State.takeRead_frame]
@[simp] theorem State.takeRead_irq : (s.takeRead tag rest).irq = s.irq := by rw [State.takeRead_frame]
@[simp] theorem State.takeRead_cmd : (s.takeRead tag rest).cmd = s.cmd := by rw [State.takeRead_frame]
@[simp] theorem State.takeRead_settings : (s.takeRead tag rest).settings = s.settings := by rw [State.takeRead_frame]
@[simp] theorem State.takeRead_sel : (s.takeRead tag rest).sel = s.sel := by rw [State.takeRead_frame]
@[simp] theorem State.takeRead_pending : (s.takeRead tag rest).pending = s.pending := by rw [State.takeRead_frame]
@[simp] theorem State.takeRead_freeCount : (s.takeRead tag rest).freeCount = s.freeCount := by rw [State.takeRead_frame]
end

section
variable (i : Nat) (s : State)
/-- A write taken by the transmitter (R56). -/
theorem State.takeWrite_frame :
    s.takeWrite i =
      { s with wq := (s.takeWrite i).wq, link := (s.takeWrite i).link, sync := (s.takeWrite i).sync } := by
  unfold State.takeWrite
  repeat' split
  all_goals rfl

@[simp] theorem State.takeWrite_pins : (s.takeWrite i).pins = s.pins := by rw [State.takeWrite_frame]
@[simp] theorem State.takeWrite_bus : (s.takeWrite i).bus = s.bus := by rw [State.takeWrite_frame]
@[simp] theorem State.takeWrite_windows : (s.takeWrite i).windows = s.windows := by rw [State.takeWrite_frame]
@[simp] theorem State.takeWrite_dir : (s.takeWrite i).dir = s.dir := by rw [State.takeWrite_frame]
@[simp] theorem State.takeWrite_reads : (s.takeWrite i).reads = s.reads := by rw [State.takeWrite_frame]
@[simp] theorem State.takeWrite_notices : (s.takeWrite i).notices = s.notices := by rw [State.takeWrite_frame]
@[simp] theorem State.takeWrite_sweep : (s.takeWrite i).sweep = s.sweep := by rw [State.takeWrite_frame]
@[simp] theorem State.takeWrite_records : (s.takeWrite i).records = s.records := by rw [State.takeWrite_frame]
@[simp] theorem State.takeWrite_counters : (s.takeWrite i).counters = s.counters := by rw [State.takeWrite_frame]
@[simp] theorem State.takeWrite_irq : (s.takeWrite i).irq = s.irq := by rw [State.takeWrite_frame]
@[simp] theorem State.takeWrite_cmd : (s.takeWrite i).cmd = s.cmd := by rw [State.takeWrite_frame]
@[simp] theorem State.takeWrite_settings : (s.takeWrite i).settings = s.settings := by rw [State.takeWrite_frame]
@[simp] theorem State.takeWrite_sel : (s.takeWrite i).sel = s.sel := by rw [State.takeWrite_frame]
@[simp] theorem State.takeWrite_pending : (s.takeWrite i).pending = s.pending := by rw [State.takeWrite_frame]
@[simp] theorem State.takeWrite_freeCount : (s.takeWrite i).freeCount = s.freeCount := by rw [State.takeWrite_frame]
end

section
variable (s : State)
/-- The transmitter's choice (R102). -/
theorem State.transmit_frame :
    s.transmit =
      { s with
        reads := (s.transmit).reads
        wq := (s.transmit).wq
        link := (s.transmit).link
        sync := (s.transmit).sync } := by
  unfold State.transmit
  repeat' split
  all_goals (apply State.ext <;> simp)

@[simp] theorem State.transmit_pins : (s.transmit).pins = s.pins := by rw [State.transmit_frame]
@[simp] theorem State.transmit_bus : (s.transmit).bus = s.bus := by rw [State.transmit_frame]
@[simp] theorem State.transmit_windows : (s.transmit).windows = s.windows := by rw [State.transmit_frame]
@[simp] theorem State.transmit_dir : (s.transmit).dir = s.dir := by rw [State.transmit_frame]
@[simp] theorem State.transmit_notices : (s.transmit).notices = s.notices := by rw [State.transmit_frame]
@[simp] theorem State.transmit_sweep : (s.transmit).sweep = s.sweep := by rw [State.transmit_frame]
@[simp] theorem State.transmit_records : (s.transmit).records = s.records := by rw [State.transmit_frame]
@[simp] theorem State.transmit_counters : (s.transmit).counters = s.counters := by rw [State.transmit_frame]
@[simp] theorem State.transmit_irq : (s.transmit).irq = s.irq := by rw [State.transmit_frame]
@[simp] theorem State.transmit_cmd : (s.transmit).cmd = s.cmd := by rw [State.transmit_frame]
@[simp] theorem State.transmit_settings : (s.transmit).settings = s.settings := by rw [State.transmit_frame]
@[simp] theorem State.transmit_sel : (s.transmit).sel = s.sel := by rw [State.transmit_frame]
@[simp] theorem State.transmit_pending : (s.transmit).pending = s.pending := by rw [State.transmit_frame]
@[simp] theorem State.transmit_freeCount : (s.transmit).freeCount = s.freeCount := by rw [State.transmit_frame]
end

section
variable (s : State)
/-- A sweep start presented (R81, R82). -/
theorem State.startSweep_frame :
    s.startSweep =
      { s with
        dir := (s.startSweep).dir
        reads := (s.startSweep).reads
        sweep := (s.startSweep).sweep
        freeCount := (s.startSweep).freeCount } := by
  unfold State.startSweep
  repeat' split
  all_goals rfl

@[simp] theorem State.startSweep_pins : (s.startSweep).pins = s.pins := by rw [State.startSweep_frame]
@[simp] theorem State.startSweep_bus : (s.startSweep).bus = s.bus := by rw [State.startSweep_frame]
@[simp] theorem State.startSweep_windows : (s.startSweep).windows = s.windows := by rw [State.startSweep_frame]
@[simp] theorem State.startSweep_wq : (s.startSweep).wq = s.wq := by rw [State.startSweep_frame]
@[simp] theorem State.startSweep_link : (s.startSweep).link = s.link := by rw [State.startSweep_frame]
@[simp] theorem State.startSweep_notices : (s.startSweep).notices = s.notices := by rw [State.startSweep_frame]
@[simp] theorem State.startSweep_sync : (s.startSweep).sync = s.sync := by rw [State.startSweep_frame]
@[simp] theorem State.startSweep_records : (s.startSweep).records = s.records := by rw [State.startSweep_frame]
@[simp] theorem State.startSweep_counters : (s.startSweep).counters = s.counters := by rw [State.startSweep_frame]
@[simp] theorem State.startSweep_irq : (s.startSweep).irq = s.irq := by rw [State.startSweep_frame]
@[simp] theorem State.startSweep_cmd : (s.startSweep).cmd = s.cmd := by rw [State.startSweep_frame]
@[simp] theorem State.startSweep_settings : (s.startSweep).settings = s.settings := by rw [State.startSweep_frame]
@[simp] theorem State.startSweep_sel : (s.startSweep).sel = s.sel := by rw [State.startSweep_frame]
@[simp] theorem State.startSweep_pending : (s.startSweep).pending = s.pending := by rw [State.startSweep_frame]
end

section
variable (tag : Fin 4) (s : State)
/-- A read entry ended at teardown (R44). -/
theorem State.endEntry_frame :
    s.endEntry tag =
      { s with dir := (s.endEntry tag).dir, reads := (s.endEntry tag).reads } := by
  unfold State.endEntry
  split
  · rename_i w _
    cases h : w.target? <;> simp only [State.failFill] <;> rfl
  · rfl

@[simp] theorem State.endEntry_pins : (s.endEntry tag).pins = s.pins := by rw [State.endEntry_frame]
@[simp] theorem State.endEntry_bus : (s.endEntry tag).bus = s.bus := by rw [State.endEntry_frame]
@[simp] theorem State.endEntry_windows : (s.endEntry tag).windows = s.windows := by rw [State.endEntry_frame]
@[simp] theorem State.endEntry_wq : (s.endEntry tag).wq = s.wq := by rw [State.endEntry_frame]
@[simp] theorem State.endEntry_link : (s.endEntry tag).link = s.link := by rw [State.endEntry_frame]
@[simp] theorem State.endEntry_notices : (s.endEntry tag).notices = s.notices := by rw [State.endEntry_frame]
@[simp] theorem State.endEntry_sweep : (s.endEntry tag).sweep = s.sweep := by rw [State.endEntry_frame]
@[simp] theorem State.endEntry_sync : (s.endEntry tag).sync = s.sync := by rw [State.endEntry_frame]
@[simp] theorem State.endEntry_records : (s.endEntry tag).records = s.records := by rw [State.endEntry_frame]
@[simp] theorem State.endEntry_counters : (s.endEntry tag).counters = s.counters := by rw [State.endEntry_frame]
@[simp] theorem State.endEntry_irq : (s.endEntry tag).irq = s.irq := by rw [State.endEntry_frame]
@[simp] theorem State.endEntry_cmd : (s.endEntry tag).cmd = s.cmd := by rw [State.endEntry_frame]
@[simp] theorem State.endEntry_settings : (s.endEntry tag).settings = s.settings := by rw [State.endEntry_frame]
@[simp] theorem State.endEntry_sel : (s.endEntry tag).sel = s.sel := by rw [State.endEntry_frame]
@[simp] theorem State.endEntry_pending : (s.endEntry tag).pending = s.pending := by rw [State.endEntry_frame]
@[simp] theorem State.endEntry_freeCount : (s.endEntry tag).freeCount = s.freeCount := by rw [State.endEntry_frame]
end

section
variable (s : State)
/-- The sync unit at teardown (R152). -/
theorem State.endSync_frame : s.endSync = { s with sync := (s.endSync).sync, irq := (s.endSync).irq } := by
  unfold State.endSync
  dsimp only
  repeat' split
  all_goals rfl

@[simp] theorem State.endSync_pins : (s.endSync).pins = s.pins := by rw [State.endSync_frame]
@[simp] theorem State.endSync_bus : (s.endSync).bus = s.bus := by rw [State.endSync_frame]
@[simp] theorem State.endSync_windows : (s.endSync).windows = s.windows := by rw [State.endSync_frame]
@[simp] theorem State.endSync_dir : (s.endSync).dir = s.dir := by rw [State.endSync_frame]
@[simp] theorem State.endSync_reads : (s.endSync).reads = s.reads := by rw [State.endSync_frame]
@[simp] theorem State.endSync_wq : (s.endSync).wq = s.wq := by rw [State.endSync_frame]
@[simp] theorem State.endSync_link : (s.endSync).link = s.link := by rw [State.endSync_frame]
@[simp] theorem State.endSync_notices : (s.endSync).notices = s.notices := by rw [State.endSync_frame]
@[simp] theorem State.endSync_sweep : (s.endSync).sweep = s.sweep := by rw [State.endSync_frame]
@[simp] theorem State.endSync_records : (s.endSync).records = s.records := by rw [State.endSync_frame]
@[simp] theorem State.endSync_counters : (s.endSync).counters = s.counters := by rw [State.endSync_frame]
@[simp] theorem State.endSync_cmd : (s.endSync).cmd = s.cmd := by rw [State.endSync_frame]
@[simp] theorem State.endSync_settings : (s.endSync).settings = s.settings := by rw [State.endSync_frame]
@[simp] theorem State.endSync_sel : (s.endSync).sel = s.sel := by rw [State.endSync_frame]
@[simp] theorem State.endSync_pending : (s.endSync).pending = s.pending := by rw [State.endSync_frame]
@[simp] theorem State.endSync_freeCount : (s.endSync).freeCount = s.freeCount := by rw [State.endSync_frame]
end

section
variable (waiter : Bool) (buffer : Line) (s : State)
/-- A waiter served (R34, R36). -/
theorem State.deliver_frame : s.deliver waiter buffer = { s with bus := (s.deliver waiter buffer).bus } := by
  unfold State.deliver
  repeat' split
  all_goals rfl

@[simp] theorem State.deliver_pins : (s.deliver waiter buffer).pins = s.pins := by rw [State.deliver_frame]
@[simp] theorem State.deliver_windows : (s.deliver waiter buffer).windows = s.windows := by rw [State.deliver_frame]
@[simp] theorem State.deliver_dir : (s.deliver waiter buffer).dir = s.dir := by rw [State.deliver_frame]
@[simp] theorem State.deliver_reads : (s.deliver waiter buffer).reads = s.reads := by rw [State.deliver_frame]
@[simp] theorem State.deliver_wq : (s.deliver waiter buffer).wq = s.wq := by rw [State.deliver_frame]
@[simp] theorem State.deliver_link : (s.deliver waiter buffer).link = s.link := by rw [State.deliver_frame]
@[simp] theorem State.deliver_notices : (s.deliver waiter buffer).notices = s.notices := by rw [State.deliver_frame]
@[simp] theorem State.deliver_sweep : (s.deliver waiter buffer).sweep = s.sweep := by rw [State.deliver_frame]
@[simp] theorem State.deliver_sync : (s.deliver waiter buffer).sync = s.sync := by rw [State.deliver_frame]
@[simp] theorem State.deliver_records : (s.deliver waiter buffer).records = s.records := by rw [State.deliver_frame]
@[simp] theorem State.deliver_counters : (s.deliver waiter buffer).counters = s.counters := by rw [State.deliver_frame]
@[simp] theorem State.deliver_irq : (s.deliver waiter buffer).irq = s.irq := by rw [State.deliver_frame]
@[simp] theorem State.deliver_cmd : (s.deliver waiter buffer).cmd = s.cmd := by rw [State.deliver_frame]
@[simp] theorem State.deliver_settings : (s.deliver waiter buffer).settings = s.settings := by rw [State.deliver_frame]
@[simp] theorem State.deliver_sel : (s.deliver waiter buffer).sel = s.sel := by rw [State.deliver_frame]
@[simp] theorem State.deliver_pending : (s.deliver waiter buffer).pending = s.pending := by rw [State.deliver_frame]
@[simp] theorem State.deliver_freeCount :
    (s.deliver waiter buffer).freeCount = s.freeCount := by rw [State.deliver_frame]
end

section
variable (tag : Fin 4) (line : LineAddr) (purpose : Purpose) (window : Fin 8) (waiter : Bool) (victim : Option (Fin 4)) (s : State)
/-- A LINE entry taken (R29). -/
theorem State.takeLine_frame :
    s.takeLine tag line purpose window waiter victim =
      { s with
        dir := (s.takeLine tag line purpose window waiter victim).dir
        reads := (s.takeLine tag line purpose window waiter victim).reads } := by
  unfold State.takeLine
  all_goals (apply State.ext <;> simp)

@[simp] theorem State.takeLine_pins :
    (s.takeLine tag line purpose window waiter victim).pins = s.pins := by rw [State.takeLine_frame]
@[simp] theorem State.takeLine_bus :
    (s.takeLine tag line purpose window waiter victim).bus = s.bus := by rw [State.takeLine_frame]
@[simp] theorem State.takeLine_windows :
    (s.takeLine tag line purpose window waiter victim).windows = s.windows := by rw [State.takeLine_frame]
@[simp] theorem State.takeLine_wq :
    (s.takeLine tag line purpose window waiter victim).wq = s.wq := by rw [State.takeLine_frame]
@[simp] theorem State.takeLine_link :
    (s.takeLine tag line purpose window waiter victim).link = s.link := by rw [State.takeLine_frame]
@[simp] theorem State.takeLine_notices :
    (s.takeLine tag line purpose window waiter victim).notices = s.notices := by rw [State.takeLine_frame]
@[simp] theorem State.takeLine_sweep :
    (s.takeLine tag line purpose window waiter victim).sweep = s.sweep := by rw [State.takeLine_frame]
@[simp] theorem State.takeLine_sync :
    (s.takeLine tag line purpose window waiter victim).sync = s.sync := by rw [State.takeLine_frame]
@[simp] theorem State.takeLine_records :
    (s.takeLine tag line purpose window waiter victim).records = s.records := by rw [State.takeLine_frame]
@[simp] theorem State.takeLine_counters :
    (s.takeLine tag line purpose window waiter victim).counters = s.counters := by rw [State.takeLine_frame]
@[simp] theorem State.takeLine_irq :
    (s.takeLine tag line purpose window waiter victim).irq = s.irq := by rw [State.takeLine_frame]
@[simp] theorem State.takeLine_cmd :
    (s.takeLine tag line purpose window waiter victim).cmd = s.cmd := by rw [State.takeLine_frame]
@[simp] theorem State.takeLine_settings :
    (s.takeLine tag line purpose window waiter victim).settings = s.settings := by rw [State.takeLine_frame]
@[simp] theorem State.takeLine_sel :
    (s.takeLine tag line purpose window waiter victim).sel = s.sel := by rw [State.takeLine_frame]
@[simp] theorem State.takeLine_pending :
    (s.takeLine tag line purpose window waiter victim).pending = s.pending := by rw [State.takeLine_frame]
@[simp] theorem State.takeLine_freeCount :
    (s.takeLine tag line purpose window waiter victim).freeCount = s.freeCount := by rw [State.takeLine_frame]
end

section
variable (a : Access) (s : State)
/-- A prefetch considered (R31, R32). -/
theorem State.considerPrefetch_frame :
    s.considerPrefetch a =
      { s with dir := (s.considerPrefetch a).dir, reads := (s.considerPrefetch a).reads } := by
  unfold State.considerPrefetch
  repeat' split
  all_goals (apply State.ext <;> simp)

@[simp] theorem State.considerPrefetch_pins :
    (s.considerPrefetch a).pins = s.pins := by rw [State.considerPrefetch_frame]
@[simp] theorem State.considerPrefetch_bus : (s.considerPrefetch a).bus = s.bus := by rw [State.considerPrefetch_frame]
@[simp] theorem State.considerPrefetch_windows :
    (s.considerPrefetch a).windows = s.windows := by rw [State.considerPrefetch_frame]
@[simp] theorem State.considerPrefetch_wq : (s.considerPrefetch a).wq = s.wq := by rw [State.considerPrefetch_frame]
@[simp] theorem State.considerPrefetch_link :
    (s.considerPrefetch a).link = s.link := by rw [State.considerPrefetch_frame]
@[simp] theorem State.considerPrefetch_notices :
    (s.considerPrefetch a).notices = s.notices := by rw [State.considerPrefetch_frame]
@[simp] theorem State.considerPrefetch_sweep :
    (s.considerPrefetch a).sweep = s.sweep := by rw [State.considerPrefetch_frame]
@[simp] theorem State.considerPrefetch_sync :
    (s.considerPrefetch a).sync = s.sync := by rw [State.considerPrefetch_frame]
@[simp] theorem State.considerPrefetch_records :
    (s.considerPrefetch a).records = s.records := by rw [State.considerPrefetch_frame]
@[simp] theorem State.considerPrefetch_counters :
    (s.considerPrefetch a).counters = s.counters := by rw [State.considerPrefetch_frame]
@[simp] theorem State.considerPrefetch_irq : (s.considerPrefetch a).irq = s.irq := by rw [State.considerPrefetch_frame]
@[simp] theorem State.considerPrefetch_cmd : (s.considerPrefetch a).cmd = s.cmd := by rw [State.considerPrefetch_frame]
@[simp] theorem State.considerPrefetch_settings :
    (s.considerPrefetch a).settings = s.settings := by rw [State.considerPrefetch_frame]
@[simp] theorem State.considerPrefetch_sel : (s.considerPrefetch a).sel = s.sel := by rw [State.considerPrefetch_frame]
@[simp] theorem State.considerPrefetch_pending :
    (s.considerPrefetch a).pending = s.pending := by rw [State.considerPrefetch_frame]
@[simp] theorem State.considerPrefetch_freeCount :
    (s.considerPrefetch a).freeCount = s.freeCount := by rw [State.considerPrefetch_frame]
end

section
variable (a : Access) (victim : Option (Fin 4)) (s : State)
/-- A read that meets a miss (R135). -/
theorem State.readMiss_frame :
    s.readMiss a victim =
      { s with
        bus := (s.readMiss a victim).bus
        dir := (s.readMiss a victim).dir
        reads := (s.readMiss a victim).reads } := by
  unfold State.readMiss
  repeat' split
  all_goals (apply State.ext <;> simp)

@[simp] theorem State.readMiss_pins : (s.readMiss a victim).pins = s.pins := by rw [State.readMiss_frame]
@[simp] theorem State.readMiss_windows : (s.readMiss a victim).windows = s.windows := by rw [State.readMiss_frame]
@[simp] theorem State.readMiss_wq : (s.readMiss a victim).wq = s.wq := by rw [State.readMiss_frame]
@[simp] theorem State.readMiss_link : (s.readMiss a victim).link = s.link := by rw [State.readMiss_frame]
@[simp] theorem State.readMiss_notices : (s.readMiss a victim).notices = s.notices := by rw [State.readMiss_frame]
@[simp] theorem State.readMiss_sweep : (s.readMiss a victim).sweep = s.sweep := by rw [State.readMiss_frame]
@[simp] theorem State.readMiss_sync : (s.readMiss a victim).sync = s.sync := by rw [State.readMiss_frame]
@[simp] theorem State.readMiss_records : (s.readMiss a victim).records = s.records := by rw [State.readMiss_frame]
@[simp] theorem State.readMiss_counters : (s.readMiss a victim).counters = s.counters := by rw [State.readMiss_frame]
@[simp] theorem State.readMiss_irq : (s.readMiss a victim).irq = s.irq := by rw [State.readMiss_frame]
@[simp] theorem State.readMiss_cmd : (s.readMiss a victim).cmd = s.cmd := by rw [State.readMiss_frame]
@[simp] theorem State.readMiss_settings : (s.readMiss a victim).settings = s.settings := by rw [State.readMiss_frame]
@[simp] theorem State.readMiss_sel : (s.readMiss a victim).sel = s.sel := by rw [State.readMiss_frame]
@[simp] theorem State.readMiss_pending : (s.readMiss a victim).pending = s.pending := by rw [State.readMiss_frame]
@[simp] theorem State.readMiss_freeCount : (s.readMiss a victim).freeCount = s.freeCount := by rw [State.readMiss_frame]
end

section
variable (a : Access) (s : State)
/-- A word read (R136). -/
theorem State.readWord_frame : s.readWord a = { s with bus := (s.readWord a).bus, reads := (s.readWord a).reads } := by
  unfold State.readWord
  repeat' split
  all_goals (apply State.ext <;> simp)

@[simp] theorem State.readWord_pins : (s.readWord a).pins = s.pins := by rw [State.readWord_frame]
@[simp] theorem State.readWord_windows : (s.readWord a).windows = s.windows := by rw [State.readWord_frame]
@[simp] theorem State.readWord_dir : (s.readWord a).dir = s.dir := by rw [State.readWord_frame]
@[simp] theorem State.readWord_wq : (s.readWord a).wq = s.wq := by rw [State.readWord_frame]
@[simp] theorem State.readWord_link : (s.readWord a).link = s.link := by rw [State.readWord_frame]
@[simp] theorem State.readWord_notices : (s.readWord a).notices = s.notices := by rw [State.readWord_frame]
@[simp] theorem State.readWord_sweep : (s.readWord a).sweep = s.sweep := by rw [State.readWord_frame]
@[simp] theorem State.readWord_sync : (s.readWord a).sync = s.sync := by rw [State.readWord_frame]
@[simp] theorem State.readWord_records : (s.readWord a).records = s.records := by rw [State.readWord_frame]
@[simp] theorem State.readWord_counters : (s.readWord a).counters = s.counters := by rw [State.readWord_frame]
@[simp] theorem State.readWord_irq : (s.readWord a).irq = s.irq := by rw [State.readWord_frame]
@[simp] theorem State.readWord_cmd : (s.readWord a).cmd = s.cmd := by rw [State.readWord_frame]
@[simp] theorem State.readWord_settings : (s.readWord a).settings = s.settings := by rw [State.readWord_frame]
@[simp] theorem State.readWord_sel : (s.readWord a).sel = s.sel := by rw [State.readWord_frame]
@[simp] theorem State.readWord_pending : (s.readWord a).pending = s.pending := by rw [State.readWord_frame]
@[simp] theorem State.readWord_freeCount : (s.readWord a).freeCount = s.freeCount := by rw [State.readWord_frame]
end

section
variable (counted : Bool) (a : Access) (s : State)
/-- A demand lookup and its outcome (R4). -/
theorem State.readLookup_frame :
    s.readLookup counted a =
      { s with
        bus := (s.readLookup counted a).bus
        dir := (s.readLookup counted a).dir
        reads := (s.readLookup counted a).reads
        counters := (s.readLookup counted a).counters } := by
  unfold State.readLookup
  repeat' split
  all_goals (apply State.ext <;> simp)

@[simp] theorem State.readLookup_pins : (s.readLookup counted a).pins = s.pins := by rw [State.readLookup_frame]
@[simp] theorem State.readLookup_windows :
    (s.readLookup counted a).windows = s.windows := by rw [State.readLookup_frame]
@[simp] theorem State.readLookup_wq : (s.readLookup counted a).wq = s.wq := by rw [State.readLookup_frame]
@[simp] theorem State.readLookup_link : (s.readLookup counted a).link = s.link := by rw [State.readLookup_frame]
@[simp] theorem State.readLookup_notices :
    (s.readLookup counted a).notices = s.notices := by rw [State.readLookup_frame]
@[simp] theorem State.readLookup_sweep : (s.readLookup counted a).sweep = s.sweep := by rw [State.readLookup_frame]
@[simp] theorem State.readLookup_sync : (s.readLookup counted a).sync = s.sync := by rw [State.readLookup_frame]
@[simp] theorem State.readLookup_records :
    (s.readLookup counted a).records = s.records := by rw [State.readLookup_frame]
@[simp] theorem State.readLookup_irq : (s.readLookup counted a).irq = s.irq := by rw [State.readLookup_frame]
@[simp] theorem State.readLookup_cmd : (s.readLookup counted a).cmd = s.cmd := by rw [State.readLookup_frame]
@[simp] theorem State.readLookup_settings :
    (s.readLookup counted a).settings = s.settings := by rw [State.readLookup_frame]
@[simp] theorem State.readLookup_sel : (s.readLookup counted a).sel = s.sel := by rw [State.readLookup_frame]
@[simp] theorem State.readLookup_pending :
    (s.readLookup counted a).pending = s.pending := by rw [State.readLookup_frame]
@[simp] theorem State.readLookup_freeCount :
    (s.readLookup counted a).freeCount = s.freeCount := by rw [State.readLookup_frame]
end

section
variable (counted : Bool) (a : Access) (s : State)
/-- A read dispatched (R132). -/
theorem State.dispatchRead_frame :
    s.dispatchRead counted a =
      { s with
        bus := (s.dispatchRead counted a).bus
        dir := (s.dispatchRead counted a).dir
        reads := (s.dispatchRead counted a).reads
        counters := (s.dispatchRead counted a).counters } := by
  unfold State.dispatchRead
  repeat' split
  all_goals (apply State.ext <;> simp)

@[simp] theorem State.dispatchRead_pins : (s.dispatchRead counted a).pins = s.pins := by rw [State.dispatchRead_frame]
@[simp] theorem State.dispatchRead_windows :
    (s.dispatchRead counted a).windows = s.windows := by rw [State.dispatchRead_frame]
@[simp] theorem State.dispatchRead_wq : (s.dispatchRead counted a).wq = s.wq := by rw [State.dispatchRead_frame]
@[simp] theorem State.dispatchRead_link : (s.dispatchRead counted a).link = s.link := by rw [State.dispatchRead_frame]
@[simp] theorem State.dispatchRead_notices :
    (s.dispatchRead counted a).notices = s.notices := by rw [State.dispatchRead_frame]
@[simp] theorem State.dispatchRead_sweep :
    (s.dispatchRead counted a).sweep = s.sweep := by rw [State.dispatchRead_frame]
@[simp] theorem State.dispatchRead_sync : (s.dispatchRead counted a).sync = s.sync := by rw [State.dispatchRead_frame]
@[simp] theorem State.dispatchRead_records :
    (s.dispatchRead counted a).records = s.records := by rw [State.dispatchRead_frame]
@[simp] theorem State.dispatchRead_irq : (s.dispatchRead counted a).irq = s.irq := by rw [State.dispatchRead_frame]
@[simp] theorem State.dispatchRead_cmd : (s.dispatchRead counted a).cmd = s.cmd := by rw [State.dispatchRead_frame]
@[simp] theorem State.dispatchRead_settings :
    (s.dispatchRead counted a).settings = s.settings := by rw [State.dispatchRead_frame]
@[simp] theorem State.dispatchRead_sel : (s.dispatchRead counted a).sel = s.sel := by rw [State.dispatchRead_frame]
@[simp] theorem State.dispatchRead_pending :
    (s.dispatchRead counted a).pending = s.pending := by rw [State.dispatchRead_frame]
@[simp] theorem State.dispatchRead_freeCount :
    (s.dispatchRead counted a).freeCount = s.freeCount := by rw [State.dispatchRead_frame]
end

section
variable (s : State)
/-- A read offered a free entry (R28). -/
theorem State.resumeFreeEntry_frame :
    s.resumeFreeEntry =
      { s with
        bus := (s.resumeFreeEntry).bus
        dir := (s.resumeFreeEntry).dir
        reads := (s.resumeFreeEntry).reads
        counters := (s.resumeFreeEntry).counters } := by
  unfold State.resumeFreeEntry
  repeat' split
  all_goals (apply State.ext <;> simp)

@[simp] theorem State.resumeFreeEntry_pins : (s.resumeFreeEntry).pins = s.pins := by rw [State.resumeFreeEntry_frame]
@[simp] theorem State.resumeFreeEntry_windows :
    (s.resumeFreeEntry).windows = s.windows := by rw [State.resumeFreeEntry_frame]
@[simp] theorem State.resumeFreeEntry_wq : (s.resumeFreeEntry).wq = s.wq := by rw [State.resumeFreeEntry_frame]
@[simp] theorem State.resumeFreeEntry_link : (s.resumeFreeEntry).link = s.link := by rw [State.resumeFreeEntry_frame]
@[simp] theorem State.resumeFreeEntry_notices :
    (s.resumeFreeEntry).notices = s.notices := by rw [State.resumeFreeEntry_frame]
@[simp] theorem State.resumeFreeEntry_sweep : (s.resumeFreeEntry).sweep = s.sweep := by rw [State.resumeFreeEntry_frame]
@[simp] theorem State.resumeFreeEntry_sync : (s.resumeFreeEntry).sync = s.sync := by rw [State.resumeFreeEntry_frame]
@[simp] theorem State.resumeFreeEntry_records :
    (s.resumeFreeEntry).records = s.records := by rw [State.resumeFreeEntry_frame]
@[simp] theorem State.resumeFreeEntry_irq : (s.resumeFreeEntry).irq = s.irq := by rw [State.resumeFreeEntry_frame]
@[simp] theorem State.resumeFreeEntry_cmd : (s.resumeFreeEntry).cmd = s.cmd := by rw [State.resumeFreeEntry_frame]
@[simp] theorem State.resumeFreeEntry_settings :
    (s.resumeFreeEntry).settings = s.settings := by rw [State.resumeFreeEntry_frame]
@[simp] theorem State.resumeFreeEntry_sel : (s.resumeFreeEntry).sel = s.sel := by rw [State.resumeFreeEntry_frame]
@[simp] theorem State.resumeFreeEntry_pending :
    (s.resumeFreeEntry).pending = s.pending := by rw [State.resumeFreeEntry_frame]
@[simp] theorem State.resumeFreeEntry_freeCount :
    (s.resumeFreeEntry).freeCount = s.freeCount := by rw [State.resumeFreeEntry_frame]
end

section
variable (s : State)
/-- An ordered read dispatched (R132). -/
theorem State.resumeQueueEmpty_frame :
    s.resumeQueueEmpty =
      { s with
        bus := (s.resumeQueueEmpty).bus
        dir := (s.resumeQueueEmpty).dir
        reads := (s.resumeQueueEmpty).reads
        counters := (s.resumeQueueEmpty).counters } := by
  unfold State.resumeQueueEmpty
  repeat' split
  all_goals (apply State.ext <;> simp)

@[simp] theorem State.resumeQueueEmpty_pins : (s.resumeQueueEmpty).pins = s.pins := by rw [State.resumeQueueEmpty_frame]
@[simp] theorem State.resumeQueueEmpty_windows :
    (s.resumeQueueEmpty).windows = s.windows := by rw [State.resumeQueueEmpty_frame]
@[simp] theorem State.resumeQueueEmpty_wq : (s.resumeQueueEmpty).wq = s.wq := by rw [State.resumeQueueEmpty_frame]
@[simp] theorem State.resumeQueueEmpty_link : (s.resumeQueueEmpty).link = s.link := by rw [State.resumeQueueEmpty_frame]
@[simp] theorem State.resumeQueueEmpty_notices :
    (s.resumeQueueEmpty).notices = s.notices := by rw [State.resumeQueueEmpty_frame]
@[simp] theorem State.resumeQueueEmpty_sweep :
    (s.resumeQueueEmpty).sweep = s.sweep := by rw [State.resumeQueueEmpty_frame]
@[simp] theorem State.resumeQueueEmpty_sync : (s.resumeQueueEmpty).sync = s.sync := by rw [State.resumeQueueEmpty_frame]
@[simp] theorem State.resumeQueueEmpty_records :
    (s.resumeQueueEmpty).records = s.records := by rw [State.resumeQueueEmpty_frame]
@[simp] theorem State.resumeQueueEmpty_irq : (s.resumeQueueEmpty).irq = s.irq := by rw [State.resumeQueueEmpty_frame]
@[simp] theorem State.resumeQueueEmpty_cmd : (s.resumeQueueEmpty).cmd = s.cmd := by rw [State.resumeQueueEmpty_frame]
@[simp] theorem State.resumeQueueEmpty_settings :
    (s.resumeQueueEmpty).settings = s.settings := by rw [State.resumeQueueEmpty_frame]
@[simp] theorem State.resumeQueueEmpty_sel : (s.resumeQueueEmpty).sel = s.sel := by rw [State.resumeQueueEmpty_frame]
@[simp] theorem State.resumeQueueEmpty_pending :
    (s.resumeQueueEmpty).pending = s.pending := by rw [State.resumeQueueEmpty_frame]
@[simp] theorem State.resumeQueueEmpty_freeCount :
    (s.resumeQueueEmpty).freeCount = s.freeCount := by rw [State.resumeQueueEmpty_frame]
end

section
variable (a : Access) (s : State)
/-- A write presented to the queue (R50). -/
theorem State.presentWrite_frame :
    s.presentWrite a =
      { s with bus := (s.presentWrite a).bus, dir := (s.presentWrite a).dir, wq := (s.presentWrite a).wq } := by
  unfold State.presentWrite
  split
  · dsimp only
    split <;> apply State.ext <;> simp
  · rfl

@[simp] theorem State.presentWrite_pins : (s.presentWrite a).pins = s.pins := by rw [State.presentWrite_frame]
@[simp] theorem State.presentWrite_windows : (s.presentWrite a).windows = s.windows := by rw [State.presentWrite_frame]
@[simp] theorem State.presentWrite_reads : (s.presentWrite a).reads = s.reads := by rw [State.presentWrite_frame]
@[simp] theorem State.presentWrite_link : (s.presentWrite a).link = s.link := by rw [State.presentWrite_frame]
@[simp] theorem State.presentWrite_notices : (s.presentWrite a).notices = s.notices := by rw [State.presentWrite_frame]
@[simp] theorem State.presentWrite_sweep : (s.presentWrite a).sweep = s.sweep := by rw [State.presentWrite_frame]
@[simp] theorem State.presentWrite_sync : (s.presentWrite a).sync = s.sync := by rw [State.presentWrite_frame]
@[simp] theorem State.presentWrite_records : (s.presentWrite a).records = s.records := by rw [State.presentWrite_frame]
@[simp] theorem State.presentWrite_counters :
    (s.presentWrite a).counters = s.counters := by rw [State.presentWrite_frame]
@[simp] theorem State.presentWrite_irq : (s.presentWrite a).irq = s.irq := by rw [State.presentWrite_frame]
@[simp] theorem State.presentWrite_cmd : (s.presentWrite a).cmd = s.cmd := by rw [State.presentWrite_frame]
@[simp] theorem State.presentWrite_settings :
    (s.presentWrite a).settings = s.settings := by rw [State.presentWrite_frame]
@[simp] theorem State.presentWrite_sel : (s.presentWrite a).sel = s.sel := by rw [State.presentWrite_frame]
@[simp] theorem State.presentWrite_pending : (s.presentWrite a).pending = s.pending := by rw [State.presentWrite_frame]
@[simp] theorem State.presentWrite_freeCount :
    (s.presentWrite a).freeCount = s.freeCount := by rw [State.presentWrite_frame]
end

section
variable (s : State)
/-- A write presented again (R53). -/
theorem State.resumeQueueSpace_frame :
    s.resumeQueueSpace =
      { s with bus := (s.resumeQueueSpace).bus, dir := (s.resumeQueueSpace).dir, wq := (s.resumeQueueSpace).wq } := by
  unfold State.resumeQueueSpace
  repeat' split
  all_goals (apply State.ext <;> simp)

@[simp] theorem State.resumeQueueSpace_pins : (s.resumeQueueSpace).pins = s.pins := by rw [State.resumeQueueSpace_frame]
@[simp] theorem State.resumeQueueSpace_windows :
    (s.resumeQueueSpace).windows = s.windows := by rw [State.resumeQueueSpace_frame]
@[simp] theorem State.resumeQueueSpace_reads :
    (s.resumeQueueSpace).reads = s.reads := by rw [State.resumeQueueSpace_frame]
@[simp] theorem State.resumeQueueSpace_link : (s.resumeQueueSpace).link = s.link := by rw [State.resumeQueueSpace_frame]
@[simp] theorem State.resumeQueueSpace_notices :
    (s.resumeQueueSpace).notices = s.notices := by rw [State.resumeQueueSpace_frame]
@[simp] theorem State.resumeQueueSpace_sweep :
    (s.resumeQueueSpace).sweep = s.sweep := by rw [State.resumeQueueSpace_frame]
@[simp] theorem State.resumeQueueSpace_sync : (s.resumeQueueSpace).sync = s.sync := by rw [State.resumeQueueSpace_frame]
@[simp] theorem State.resumeQueueSpace_records :
    (s.resumeQueueSpace).records = s.records := by rw [State.resumeQueueSpace_frame]
@[simp] theorem State.resumeQueueSpace_counters :
    (s.resumeQueueSpace).counters = s.counters := by rw [State.resumeQueueSpace_frame]
@[simp] theorem State.resumeQueueSpace_irq : (s.resumeQueueSpace).irq = s.irq := by rw [State.resumeQueueSpace_frame]
@[simp] theorem State.resumeQueueSpace_cmd : (s.resumeQueueSpace).cmd = s.cmd := by rw [State.resumeQueueSpace_frame]
@[simp] theorem State.resumeQueueSpace_settings :
    (s.resumeQueueSpace).settings = s.settings := by rw [State.resumeQueueSpace_frame]
@[simp] theorem State.resumeQueueSpace_sel : (s.resumeQueueSpace).sel = s.sel := by rw [State.resumeQueueSpace_frame]
@[simp] theorem State.resumeQueueSpace_pending :
    (s.resumeQueueSpace).pending = s.pending := by rw [State.resumeQueueSpace_frame]
@[simp] theorem State.resumeQueueSpace_freeCount :
    (s.resumeQueueSpace).freeCount = s.freeCount := by rw [State.resumeQueueSpace_frame]
end

section
variable (a : Access) (s : State)
/-- A read that passes the checks (R132). -/
theorem State.startRead_frame :
    s.startRead a =
      { s with
        bus := (s.startRead a).bus
        dir := (s.startRead a).dir
        reads := (s.startRead a).reads
        counters := (s.startRead a).counters } := by
  unfold State.startRead
  repeat' split
  all_goals (apply State.ext <;> simp)

@[simp] theorem State.startRead_pins : (s.startRead a).pins = s.pins := by rw [State.startRead_frame]
@[simp] theorem State.startRead_windows : (s.startRead a).windows = s.windows := by rw [State.startRead_frame]
@[simp] theorem State.startRead_wq : (s.startRead a).wq = s.wq := by rw [State.startRead_frame]
@[simp] theorem State.startRead_link : (s.startRead a).link = s.link := by rw [State.startRead_frame]
@[simp] theorem State.startRead_notices : (s.startRead a).notices = s.notices := by rw [State.startRead_frame]
@[simp] theorem State.startRead_sweep : (s.startRead a).sweep = s.sweep := by rw [State.startRead_frame]
@[simp] theorem State.startRead_sync : (s.startRead a).sync = s.sync := by rw [State.startRead_frame]
@[simp] theorem State.startRead_records : (s.startRead a).records = s.records := by rw [State.startRead_frame]
@[simp] theorem State.startRead_irq : (s.startRead a).irq = s.irq := by rw [State.startRead_frame]
@[simp] theorem State.startRead_cmd : (s.startRead a).cmd = s.cmd := by rw [State.startRead_frame]
@[simp] theorem State.startRead_settings : (s.startRead a).settings = s.settings := by rw [State.startRead_frame]
@[simp] theorem State.startRead_sel : (s.startRead a).sel = s.sel := by rw [State.startRead_frame]
@[simp] theorem State.startRead_pending : (s.startRead a).pending = s.pending := by rw [State.startRead_frame]
@[simp] theorem State.startRead_freeCount : (s.startRead a).freeCount = s.freeCount := by rw [State.startRead_frame]
end

section
variable (s : State)
/-- Teardown (R98). -/
theorem State.teardown_frame :
    s.teardown =
      { s with
        bus := (s.teardown).bus
        dir := (s.teardown).dir
        reads := (s.teardown).reads
        wq := (s.teardown).wq
        link := (s.teardown).link
        sweep := (s.teardown).sweep
        sync := (s.teardown).sync
        irq := (s.teardown).irq
        freeCount := (s.teardown).freeCount } := by
  unfold State.teardown
  simp only [List.finRange_succ, List.finRange_zero, List.map_cons, List.map_nil, List.foldl_cons, List.foldl_nil]
  apply State.ext <;> simp

@[simp] theorem State.teardown_pins : (s.teardown).pins = s.pins := by rw [State.teardown_frame]
@[simp] theorem State.teardown_windows : (s.teardown).windows = s.windows := by rw [State.teardown_frame]
@[simp] theorem State.teardown_notices : (s.teardown).notices = s.notices := by rw [State.teardown_frame]
@[simp] theorem State.teardown_records : (s.teardown).records = s.records := by rw [State.teardown_frame]
@[simp] theorem State.teardown_counters : (s.teardown).counters = s.counters := by rw [State.teardown_frame]
@[simp] theorem State.teardown_cmd : (s.teardown).cmd = s.cmd := by rw [State.teardown_frame]
@[simp] theorem State.teardown_settings : (s.teardown).settings = s.settings := by rw [State.teardown_frame]
@[simp] theorem State.teardown_sel : (s.teardown).sel = s.sel := by rw [State.teardown_frame]
@[simp] theorem State.teardown_pending : (s.teardown).pending = s.pending := by rw [State.teardown_frame]
end

section
variable (cause : Cause) (discarded : Nat) (s : State)
/-- A failure reported (R99). -/
theorem State.reportFailure_frame :
    s.reportFailure cause discarded =
      { s with records := (s.reportFailure cause discarded).records, irq := (s.reportFailure cause discarded).irq } := by
  unfold State.reportFailure
  all_goals (apply State.ext <;> simp)

@[simp] theorem State.reportFailure_pins :
    (s.reportFailure cause discarded).pins = s.pins := by rw [State.reportFailure_frame]
@[simp] theorem State.reportFailure_bus :
    (s.reportFailure cause discarded).bus = s.bus := by rw [State.reportFailure_frame]
@[simp] theorem State.reportFailure_windows :
    (s.reportFailure cause discarded).windows = s.windows := by rw [State.reportFailure_frame]
@[simp] theorem State.reportFailure_dir :
    (s.reportFailure cause discarded).dir = s.dir := by rw [State.reportFailure_frame]
@[simp] theorem State.reportFailure_reads :
    (s.reportFailure cause discarded).reads = s.reads := by rw [State.reportFailure_frame]
@[simp] theorem State.reportFailure_wq :
    (s.reportFailure cause discarded).wq = s.wq := by rw [State.reportFailure_frame]
@[simp] theorem State.reportFailure_link :
    (s.reportFailure cause discarded).link = s.link := by rw [State.reportFailure_frame]
@[simp] theorem State.reportFailure_notices :
    (s.reportFailure cause discarded).notices = s.notices := by rw [State.reportFailure_frame]
@[simp] theorem State.reportFailure_sweep :
    (s.reportFailure cause discarded).sweep = s.sweep := by rw [State.reportFailure_frame]
@[simp] theorem State.reportFailure_sync :
    (s.reportFailure cause discarded).sync = s.sync := by rw [State.reportFailure_frame]
@[simp] theorem State.reportFailure_counters :
    (s.reportFailure cause discarded).counters = s.counters := by rw [State.reportFailure_frame]
@[simp] theorem State.reportFailure_cmd :
    (s.reportFailure cause discarded).cmd = s.cmd := by rw [State.reportFailure_frame]
@[simp] theorem State.reportFailure_settings :
    (s.reportFailure cause discarded).settings = s.settings := by rw [State.reportFailure_frame]
@[simp] theorem State.reportFailure_sel :
    (s.reportFailure cause discarded).sel = s.sel := by rw [State.reportFailure_frame]
@[simp] theorem State.reportFailure_pending :
    (s.reportFailure cause discarded).pending = s.pending := by rw [State.reportFailure_frame]
@[simp] theorem State.reportFailure_freeCount :
    (s.reportFailure cause discarded).freeCount = s.freeCount := by rw [State.reportFailure_frame]
end

section
variable (cause : Cause) (s : State)
/-- A failure from UP (R97). -/
theorem State.fail_frame :
    s.fail cause =
      { s with
        bus := (s.fail cause).bus
        dir := (s.fail cause).dir
        reads := (s.fail cause).reads
        wq := (s.fail cause).wq
        link := (s.fail cause).link
        sweep := (s.fail cause).sweep
        sync := (s.fail cause).sync
        records := (s.fail cause).records
        irq := (s.fail cause).irq
        freeCount := (s.fail cause).freeCount } := by
  unfold State.fail
  dsimp only
  split <;> apply State.ext <;> simp

@[simp] theorem State.fail_pins : (s.fail cause).pins = s.pins := by rw [State.fail_frame]
@[simp] theorem State.fail_windows : (s.fail cause).windows = s.windows := by rw [State.fail_frame]
@[simp] theorem State.fail_notices : (s.fail cause).notices = s.notices := by rw [State.fail_frame]
@[simp] theorem State.fail_counters : (s.fail cause).counters = s.counters := by rw [State.fail_frame]
@[simp] theorem State.fail_cmd : (s.fail cause).cmd = s.cmd := by rw [State.fail_frame]
@[simp] theorem State.fail_settings : (s.fail cause).settings = s.settings := by rw [State.fail_frame]
@[simp] theorem State.fail_sel : (s.fail cause).sel = s.sel := by rw [State.fail_frame]
@[simp] theorem State.fail_pending : (s.fail cause).pending = s.pending := by rw [State.fail_frame]
end

section
variable (tag : Fin 4) (w : ReadWork) (returned : Line) (s : State)
/-- An entry completed (R34). -/
theorem State.completeRead_frame :
    s.completeRead tag w returned =
      { s with
        bus := (s.completeRead tag w returned).bus
        dir := (s.completeRead tag w returned).dir
        reads := (s.completeRead tag w returned).reads
        counters := (s.completeRead tag w returned).counters } := by
  unfold State.completeRead
  apply State.ext <;> simp

@[simp] theorem State.completeRead_pins :
    (s.completeRead tag w returned).pins = s.pins := by rw [State.completeRead_frame]
@[simp] theorem State.completeRead_windows :
    (s.completeRead tag w returned).windows = s.windows := by rw [State.completeRead_frame]
@[simp] theorem State.completeRead_wq : (s.completeRead tag w returned).wq = s.wq := by rw [State.completeRead_frame]
@[simp] theorem State.completeRead_link :
    (s.completeRead tag w returned).link = s.link := by rw [State.completeRead_frame]
@[simp] theorem State.completeRead_notices :
    (s.completeRead tag w returned).notices = s.notices := by rw [State.completeRead_frame]
@[simp] theorem State.completeRead_sweep :
    (s.completeRead tag w returned).sweep = s.sweep := by rw [State.completeRead_frame]
@[simp] theorem State.completeRead_sync :
    (s.completeRead tag w returned).sync = s.sync := by rw [State.completeRead_frame]
@[simp] theorem State.completeRead_records :
    (s.completeRead tag w returned).records = s.records := by rw [State.completeRead_frame]
@[simp] theorem State.completeRead_irq : (s.completeRead tag w returned).irq = s.irq := by rw [State.completeRead_frame]
@[simp] theorem State.completeRead_cmd : (s.completeRead tag w returned).cmd = s.cmd := by rw [State.completeRead_frame]
@[simp] theorem State.completeRead_settings :
    (s.completeRead tag w returned).settings = s.settings := by rw [State.completeRead_frame]
@[simp] theorem State.completeRead_sel : (s.completeRead tag w returned).sel = s.sel := by rw [State.completeRead_frame]
@[simp] theorem State.completeRead_pending :
    (s.completeRead tag w returned).pending = s.pending := by rw [State.completeRead_frame]
@[simp] theorem State.completeRead_freeCount :
    (s.completeRead tag w returned).freeCount = s.freeCount := by rw [State.completeRead_frame]
end

section
variable (tag : Fin 4) (w : ReadWork) (s : State)
/-- An entry refused (R37). -/
theorem State.refuseRead_frame :
    s.refuseRead tag w =
      { s with
        bus := (s.refuseRead tag w).bus
        dir := (s.refuseRead tag w).dir
        reads := (s.refuseRead tag w).reads
        records := (s.refuseRead tag w).records
        counters := (s.refuseRead tag w).counters
        irq := (s.refuseRead tag w).irq } := by
  unfold State.refuseRead
  dsimp only
  repeat' split
  all_goals (apply State.ext <;> simp)

@[simp] theorem State.refuseRead_pins : (s.refuseRead tag w).pins = s.pins := by rw [State.refuseRead_frame]
@[simp] theorem State.refuseRead_windows : (s.refuseRead tag w).windows = s.windows := by rw [State.refuseRead_frame]
@[simp] theorem State.refuseRead_wq : (s.refuseRead tag w).wq = s.wq := by rw [State.refuseRead_frame]
@[simp] theorem State.refuseRead_link : (s.refuseRead tag w).link = s.link := by rw [State.refuseRead_frame]
@[simp] theorem State.refuseRead_notices : (s.refuseRead tag w).notices = s.notices := by rw [State.refuseRead_frame]
@[simp] theorem State.refuseRead_sweep : (s.refuseRead tag w).sweep = s.sweep := by rw [State.refuseRead_frame]
@[simp] theorem State.refuseRead_sync : (s.refuseRead tag w).sync = s.sync := by rw [State.refuseRead_frame]
@[simp] theorem State.refuseRead_cmd : (s.refuseRead tag w).cmd = s.cmd := by rw [State.refuseRead_frame]
@[simp] theorem State.refuseRead_settings : (s.refuseRead tag w).settings = s.settings := by rw [State.refuseRead_frame]
@[simp] theorem State.refuseRead_sel : (s.refuseRead tag w).sel = s.sel := by rw [State.refuseRead_frame]
@[simp] theorem State.refuseRead_pending : (s.refuseRead tag w).pending = s.pending := by rw [State.refuseRead_frame]
@[simp] theorem State.refuseRead_freeCount :
    (s.refuseRead tag w).freeCount = s.freeCount := by rw [State.refuseRead_frame]
end

section
variable (tag : Fin 4) (issue : Issue) (isLine : Bool) (status : Status) (returned : ReadWork → Line) (s : State)
/-- A response taken (R33). -/
theorem State.takeResponse_frame :
    s.takeResponse tag issue isLine status returned =
      { s with
        bus := (s.takeResponse tag issue isLine status returned).bus
        dir := (s.takeResponse tag issue isLine status returned).dir
        reads := (s.takeResponse tag issue isLine status returned).reads
        wq := (s.takeResponse tag issue isLine status returned).wq
        link := (s.takeResponse tag issue isLine status returned).link
        sync := (s.takeResponse tag issue isLine status returned).sync
        records := (s.takeResponse tag issue isLine status returned).records
        counters := (s.takeResponse tag issue isLine status returned).counters
        irq := (s.takeResponse tag issue isLine status returned).irq } := by
  unfold State.takeResponse
  repeat' split
  all_goals (apply State.ext <;> simp)

@[simp] theorem State.takeResponse_pins :
    (s.takeResponse tag issue isLine status returned).pins = s.pins := by rw [State.takeResponse_frame]
@[simp] theorem State.takeResponse_windows :
    (s.takeResponse tag issue isLine status returned).windows = s.windows := by rw [State.takeResponse_frame]
@[simp] theorem State.takeResponse_notices :
    (s.takeResponse tag issue isLine status returned).notices = s.notices := by rw [State.takeResponse_frame]
@[simp] theorem State.takeResponse_sweep :
    (s.takeResponse tag issue isLine status returned).sweep = s.sweep := by rw [State.takeResponse_frame]
@[simp] theorem State.takeResponse_cmd :
    (s.takeResponse tag issue isLine status returned).cmd = s.cmd := by rw [State.takeResponse_frame]
@[simp] theorem State.takeResponse_settings :
    (s.takeResponse tag issue isLine status returned).settings = s.settings := by rw [State.takeResponse_frame]
@[simp] theorem State.takeResponse_sel :
    (s.takeResponse tag issue isLine status returned).sel = s.sel := by rw [State.takeResponse_frame]
@[simp] theorem State.takeResponse_pending :
    (s.takeResponse tag issue isLine status returned).pending = s.pending := by rw [State.takeResponse_frame]
@[simp] theorem State.takeResponse_freeCount :
    (s.takeResponse tag issue isLine status returned).freeCount = s.freeCount := by rw [State.takeResponse_frame]
end

section
variable (k : Nat) (s : State)
/-- Entries removed under an ack (R58). -/
theorem State.removeEntries_frame :
    s.removeEntries k =
      { s with wq := (s.removeEntries k).wq, sync := (s.removeEntries k).sync } := by
  unfold State.removeEntries
  dsimp only
  split <;> rfl

@[simp] theorem State.removeEntries_pins : (s.removeEntries k).pins = s.pins := by rw [State.removeEntries_frame]
@[simp] theorem State.removeEntries_bus : (s.removeEntries k).bus = s.bus := by rw [State.removeEntries_frame]
@[simp] theorem State.removeEntries_windows :
    (s.removeEntries k).windows = s.windows := by rw [State.removeEntries_frame]
@[simp] theorem State.removeEntries_dir : (s.removeEntries k).dir = s.dir := by rw [State.removeEntries_frame]
@[simp] theorem State.removeEntries_reads : (s.removeEntries k).reads = s.reads := by rw [State.removeEntries_frame]
@[simp] theorem State.removeEntries_link : (s.removeEntries k).link = s.link := by rw [State.removeEntries_frame]
@[simp] theorem State.removeEntries_notices :
    (s.removeEntries k).notices = s.notices := by rw [State.removeEntries_frame]
@[simp] theorem State.removeEntries_sweep : (s.removeEntries k).sweep = s.sweep := by rw [State.removeEntries_frame]
@[simp] theorem State.removeEntries_records :
    (s.removeEntries k).records = s.records := by rw [State.removeEntries_frame]
@[simp] theorem State.removeEntries_counters :
    (s.removeEntries k).counters = s.counters := by rw [State.removeEntries_frame]
@[simp] theorem State.removeEntries_irq : (s.removeEntries k).irq = s.irq := by rw [State.removeEntries_frame]
@[simp] theorem State.removeEntries_cmd : (s.removeEntries k).cmd = s.cmd := by rw [State.removeEntries_frame]
@[simp] theorem State.removeEntries_settings :
    (s.removeEntries k).settings = s.settings := by rw [State.removeEntries_frame]
@[simp] theorem State.removeEntries_sel : (s.removeEntries k).sel = s.sel := by rw [State.removeEntries_frame]
@[simp] theorem State.removeEntries_pending :
    (s.removeEntries k).pending = s.pending := by rw [State.removeEntries_frame]
@[simp] theorem State.removeEntries_freeCount :
    (s.removeEntries k).freeCount = s.freeCount := by rw [State.removeEntries_frame]
end

section
variable (e : WriteEntry) (s : State)
/-- A refused entry's effects (R59). -/
theorem State.refuseWrite_frame :
    s.refuseWrite e =
      { s with dir := (s.refuseWrite e).dir, records := (s.refuseWrite e).records, irq := (s.refuseWrite e).irq } := by
  unfold State.refuseWrite
  all_goals (apply State.ext <;> simp)

@[simp] theorem State.refuseWrite_pins : (s.refuseWrite e).pins = s.pins := by rw [State.refuseWrite_frame]
@[simp] theorem State.refuseWrite_bus : (s.refuseWrite e).bus = s.bus := by rw [State.refuseWrite_frame]
@[simp] theorem State.refuseWrite_windows : (s.refuseWrite e).windows = s.windows := by rw [State.refuseWrite_frame]
@[simp] theorem State.refuseWrite_reads : (s.refuseWrite e).reads = s.reads := by rw [State.refuseWrite_frame]
@[simp] theorem State.refuseWrite_wq : (s.refuseWrite e).wq = s.wq := by rw [State.refuseWrite_frame]
@[simp] theorem State.refuseWrite_link : (s.refuseWrite e).link = s.link := by rw [State.refuseWrite_frame]
@[simp] theorem State.refuseWrite_notices : (s.refuseWrite e).notices = s.notices := by rw [State.refuseWrite_frame]
@[simp] theorem State.refuseWrite_sweep : (s.refuseWrite e).sweep = s.sweep := by rw [State.refuseWrite_frame]
@[simp] theorem State.refuseWrite_sync : (s.refuseWrite e).sync = s.sync := by rw [State.refuseWrite_frame]
@[simp] theorem State.refuseWrite_counters : (s.refuseWrite e).counters = s.counters := by rw [State.refuseWrite_frame]
@[simp] theorem State.refuseWrite_cmd : (s.refuseWrite e).cmd = s.cmd := by rw [State.refuseWrite_frame]
@[simp] theorem State.refuseWrite_settings : (s.refuseWrite e).settings = s.settings := by rw [State.refuseWrite_frame]
@[simp] theorem State.refuseWrite_sel : (s.refuseWrite e).sel = s.sel := by rw [State.refuseWrite_frame]
@[simp] theorem State.refuseWrite_pending : (s.refuseWrite e).pending = s.pending := by rw [State.refuseWrite_frame]
@[simp] theorem State.refuseWrite_freeCount :
    (s.refuseWrite e).freeCount = s.freeCount := by rw [State.refuseWrite_frame]
end

section
variable (refused : Bool) (s : State)
/-- The non-posted writer's end (R65). -/
theorem State.endWriter_frame : s.endWriter refused = { s with bus := (s.endWriter refused).bus } := by
  unfold State.endWriter
  repeat' split
  all_goals rfl

@[simp] theorem State.endWriter_pins : (s.endWriter refused).pins = s.pins := by rw [State.endWriter_frame]
@[simp] theorem State.endWriter_windows : (s.endWriter refused).windows = s.windows := by rw [State.endWriter_frame]
@[simp] theorem State.endWriter_dir : (s.endWriter refused).dir = s.dir := by rw [State.endWriter_frame]
@[simp] theorem State.endWriter_reads : (s.endWriter refused).reads = s.reads := by rw [State.endWriter_frame]
@[simp] theorem State.endWriter_wq : (s.endWriter refused).wq = s.wq := by rw [State.endWriter_frame]
@[simp] theorem State.endWriter_link : (s.endWriter refused).link = s.link := by rw [State.endWriter_frame]
@[simp] theorem State.endWriter_notices : (s.endWriter refused).notices = s.notices := by rw [State.endWriter_frame]
@[simp] theorem State.endWriter_sweep : (s.endWriter refused).sweep = s.sweep := by rw [State.endWriter_frame]
@[simp] theorem State.endWriter_sync : (s.endWriter refused).sync = s.sync := by rw [State.endWriter_frame]
@[simp] theorem State.endWriter_records : (s.endWriter refused).records = s.records := by rw [State.endWriter_frame]
@[simp] theorem State.endWriter_counters : (s.endWriter refused).counters = s.counters := by rw [State.endWriter_frame]
@[simp] theorem State.endWriter_irq : (s.endWriter refused).irq = s.irq := by rw [State.endWriter_frame]
@[simp] theorem State.endWriter_cmd : (s.endWriter refused).cmd = s.cmd := by rw [State.endWriter_frame]
@[simp] theorem State.endWriter_settings : (s.endWriter refused).settings = s.settings := by rw [State.endWriter_frame]
@[simp] theorem State.endWriter_sel : (s.endWriter refused).sel = s.sel := by rw [State.endWriter_frame]
@[simp] theorem State.endWriter_pending : (s.endWriter refused).pending = s.pending := by rw [State.endWriter_frame]
@[simp] theorem State.endWriter_freeCount :
    (s.endWriter refused).freeCount = s.freeCount := by rw [State.endWriter_frame]
end

section
variable (k : Nat) (status : Status) (s : State)
/-- An ack that names an entry (R57 to R59). -/
theorem State.ackEntries_frame :
    s.ackEntries k status =
      { s with
        bus := (s.ackEntries k status).bus
        dir := (s.ackEntries k status).dir
        reads := (s.ackEntries k status).reads
        wq := (s.ackEntries k status).wq
        sync := (s.ackEntries k status).sync
        records := (s.ackEntries k status).records
        counters := (s.ackEntries k status).counters
        irq := (s.ackEntries k status).irq } := by
  unfold State.ackEntries
  dsimp only
  repeat' split
  all_goals (apply State.ext <;> simp)

@[simp] theorem State.ackEntries_pins : (s.ackEntries k status).pins = s.pins := by rw [State.ackEntries_frame]
@[simp] theorem State.ackEntries_windows : (s.ackEntries k status).windows = s.windows := by rw [State.ackEntries_frame]
@[simp] theorem State.ackEntries_link : (s.ackEntries k status).link = s.link := by rw [State.ackEntries_frame]
@[simp] theorem State.ackEntries_notices : (s.ackEntries k status).notices = s.notices := by rw [State.ackEntries_frame]
@[simp] theorem State.ackEntries_sweep : (s.ackEntries k status).sweep = s.sweep := by rw [State.ackEntries_frame]
@[simp] theorem State.ackEntries_cmd : (s.ackEntries k status).cmd = s.cmd := by rw [State.ackEntries_frame]
@[simp] theorem State.ackEntries_settings :
    (s.ackEntries k status).settings = s.settings := by rw [State.ackEntries_frame]
@[simp] theorem State.ackEntries_sel : (s.ackEntries k status).sel = s.sel := by rw [State.ackEntries_frame]
@[simp] theorem State.ackEntries_pending : (s.ackEntries k status).pending = s.pending := by rw [State.ackEntries_frame]
@[simp] theorem State.ackEntries_freeCount :
    (s.ackEntries k status).freeCount = s.freeCount := by rw [State.ackEntries_frame]
end

section
variable (status : Status) (total : BitVec 8) (s : State)
/-- The refusal total compared (R60). -/
theorem State.checkTotal_frame :
    s.checkTotal status total =
      { s with
        wq := (s.checkTotal status total).wq
        records := (s.checkTotal status total).records
        irq := (s.checkTotal status total).irq } := by
  unfold State.checkTotal
  dsimp only
  split <;> apply State.ext <;> simp

@[simp] theorem State.checkTotal_pins : (s.checkTotal status total).pins = s.pins := by rw [State.checkTotal_frame]
@[simp] theorem State.checkTotal_bus : (s.checkTotal status total).bus = s.bus := by rw [State.checkTotal_frame]
@[simp] theorem State.checkTotal_windows :
    (s.checkTotal status total).windows = s.windows := by rw [State.checkTotal_frame]
@[simp] theorem State.checkTotal_dir : (s.checkTotal status total).dir = s.dir := by rw [State.checkTotal_frame]
@[simp] theorem State.checkTotal_reads : (s.checkTotal status total).reads = s.reads := by rw [State.checkTotal_frame]
@[simp] theorem State.checkTotal_link : (s.checkTotal status total).link = s.link := by rw [State.checkTotal_frame]
@[simp] theorem State.checkTotal_notices :
    (s.checkTotal status total).notices = s.notices := by rw [State.checkTotal_frame]
@[simp] theorem State.checkTotal_sweep : (s.checkTotal status total).sweep = s.sweep := by rw [State.checkTotal_frame]
@[simp] theorem State.checkTotal_sync : (s.checkTotal status total).sync = s.sync := by rw [State.checkTotal_frame]
@[simp] theorem State.checkTotal_counters :
    (s.checkTotal status total).counters = s.counters := by rw [State.checkTotal_frame]
@[simp] theorem State.checkTotal_cmd : (s.checkTotal status total).cmd = s.cmd := by rw [State.checkTotal_frame]
@[simp] theorem State.checkTotal_settings :
    (s.checkTotal status total).settings = s.settings := by rw [State.checkTotal_frame]
@[simp] theorem State.checkTotal_sel : (s.checkTotal status total).sel = s.sel := by rw [State.checkTotal_frame]
@[simp] theorem State.checkTotal_pending :
    (s.checkTotal status total).pending = s.pending := by rw [State.checkTotal_frame]
@[simp] theorem State.checkTotal_freeCount :
    (s.checkTotal status total).freeCount = s.freeCount := by rw [State.checkTotal_frame]
end

section
variable (seq : Seq) (status : Status) (total : BitVec 8) (s : State)
/-- A WRITE_ACK taken (R57 to R60). -/
theorem State.takeWriteAck_frame :
    s.takeWriteAck seq status total =
      { s with
        bus := (s.takeWriteAck seq status total).bus
        dir := (s.takeWriteAck seq status total).dir
        reads := (s.takeWriteAck seq status total).reads
        wq := (s.takeWriteAck seq status total).wq
        link := (s.takeWriteAck seq status total).link
        sync := (s.takeWriteAck seq status total).sync
        records := (s.takeWriteAck seq status total).records
        counters := (s.takeWriteAck seq status total).counters
        irq := (s.takeWriteAck seq status total).irq } := by
  unfold State.takeWriteAck
  dsimp only
  split <;> apply State.ext <;> simp

@[simp] theorem State.takeWriteAck_pins :
    (s.takeWriteAck seq status total).pins = s.pins := by rw [State.takeWriteAck_frame]
@[simp] theorem State.takeWriteAck_windows :
    (s.takeWriteAck seq status total).windows = s.windows := by rw [State.takeWriteAck_frame]
@[simp] theorem State.takeWriteAck_notices :
    (s.takeWriteAck seq status total).notices = s.notices := by rw [State.takeWriteAck_frame]
@[simp] theorem State.takeWriteAck_sweep :
    (s.takeWriteAck seq status total).sweep = s.sweep := by rw [State.takeWriteAck_frame]
@[simp] theorem State.takeWriteAck_cmd :
    (s.takeWriteAck seq status total).cmd = s.cmd := by rw [State.takeWriteAck_frame]
@[simp] theorem State.takeWriteAck_settings :
    (s.takeWriteAck seq status total).settings = s.settings := by rw [State.takeWriteAck_frame]
@[simp] theorem State.takeWriteAck_sel :
    (s.takeWriteAck seq status total).sel = s.sel := by rw [State.takeWriteAck_frame]
@[simp] theorem State.takeWriteAck_pending :
    (s.takeWriteAck seq status total).pending = s.pending := by rw [State.takeWriteAck_frame]
@[simp] theorem State.takeWriteAck_freeCount :
    (s.takeWriteAck seq status total).freeCount = s.freeCount := by rw [State.takeWriteAck_frame]
end

section
variable (issue : Issue) (s : State)
/-- A SYNC_ACK taken (R149). -/
theorem State.takeSyncAck_frame :
    s.takeSyncAck issue =
      { s with
        sync := (s.takeSyncAck issue).sync
        counters := (s.takeSyncAck issue).counters
        irq := (s.takeSyncAck issue).irq } := by
  unfold State.takeSyncAck
  repeat' split
  all_goals rfl

@[simp] theorem State.takeSyncAck_pins : (s.takeSyncAck issue).pins = s.pins := by rw [State.takeSyncAck_frame]
@[simp] theorem State.takeSyncAck_bus : (s.takeSyncAck issue).bus = s.bus := by rw [State.takeSyncAck_frame]
@[simp] theorem State.takeSyncAck_windows : (s.takeSyncAck issue).windows = s.windows := by rw [State.takeSyncAck_frame]
@[simp] theorem State.takeSyncAck_dir : (s.takeSyncAck issue).dir = s.dir := by rw [State.takeSyncAck_frame]
@[simp] theorem State.takeSyncAck_reads : (s.takeSyncAck issue).reads = s.reads := by rw [State.takeSyncAck_frame]
@[simp] theorem State.takeSyncAck_wq : (s.takeSyncAck issue).wq = s.wq := by rw [State.takeSyncAck_frame]
@[simp] theorem State.takeSyncAck_link : (s.takeSyncAck issue).link = s.link := by rw [State.takeSyncAck_frame]
@[simp] theorem State.takeSyncAck_notices : (s.takeSyncAck issue).notices = s.notices := by rw [State.takeSyncAck_frame]
@[simp] theorem State.takeSyncAck_sweep : (s.takeSyncAck issue).sweep = s.sweep := by rw [State.takeSyncAck_frame]
@[simp] theorem State.takeSyncAck_records : (s.takeSyncAck issue).records = s.records := by rw [State.takeSyncAck_frame]
@[simp] theorem State.takeSyncAck_cmd : (s.takeSyncAck issue).cmd = s.cmd := by rw [State.takeSyncAck_frame]
@[simp] theorem State.takeSyncAck_settings :
    (s.takeSyncAck issue).settings = s.settings := by rw [State.takeSyncAck_frame]
@[simp] theorem State.takeSyncAck_sel : (s.takeSyncAck issue).sel = s.sel := by rw [State.takeSyncAck_frame]
@[simp] theorem State.takeSyncAck_pending : (s.takeSyncAck issue).pending = s.pending := by rw [State.takeSyncAck_frame]
@[simp] theorem State.takeSyncAck_freeCount :
    (s.takeSyncAck issue).freeCount = s.freeCount := by rw [State.takeSyncAck_frame]
end

section
variable (seq : Seq) (line : LineAddr) (s : State)
/-- A NOTICE taken (R71). -/
theorem State.takeNotice_frame :
    s.takeNotice seq line =
      { s with
        dir := (s.takeNotice seq line).dir
        reads := (s.takeNotice seq line).reads
        notices := (s.takeNotice seq line).notices
        sweep := (s.takeNotice seq line).sweep
        records := (s.takeNotice seq line).records
        counters := (s.takeNotice seq line).counters
        irq := (s.takeNotice seq line).irq
        freeCount := (s.takeNotice seq line).freeCount } := by
  unfold State.takeNotice
  dsimp only
  repeat' split
  all_goals (apply State.ext <;> simp)

@[simp] theorem State.takeNotice_pins : (s.takeNotice seq line).pins = s.pins := by rw [State.takeNotice_frame]
@[simp] theorem State.takeNotice_bus : (s.takeNotice seq line).bus = s.bus := by rw [State.takeNotice_frame]
@[simp] theorem State.takeNotice_windows : (s.takeNotice seq line).windows = s.windows := by rw [State.takeNotice_frame]
@[simp] theorem State.takeNotice_wq : (s.takeNotice seq line).wq = s.wq := by rw [State.takeNotice_frame]
@[simp] theorem State.takeNotice_link : (s.takeNotice seq line).link = s.link := by rw [State.takeNotice_frame]
@[simp] theorem State.takeNotice_sync : (s.takeNotice seq line).sync = s.sync := by rw [State.takeNotice_frame]
@[simp] theorem State.takeNotice_cmd : (s.takeNotice seq line).cmd = s.cmd := by rw [State.takeNotice_frame]
@[simp] theorem State.takeNotice_settings :
    (s.takeNotice seq line).settings = s.settings := by rw [State.takeNotice_frame]
@[simp] theorem State.takeNotice_sel : (s.takeNotice seq line).sel = s.sel := by rw [State.takeNotice_frame]
@[simp] theorem State.takeNotice_pending : (s.takeNotice seq line).pending = s.pending := by rw [State.takeNotice_frame]
end

section
variable (next : Seq) (s : State)
/-- A TICK taken (R71). -/
theorem State.takeTick_frame :
    s.takeTick next =
      { s with
        dir := (s.takeTick next).dir
        reads := (s.takeTick next).reads
        notices := (s.takeTick next).notices
        sweep := (s.takeTick next).sweep
        records := (s.takeTick next).records
        irq := (s.takeTick next).irq
        freeCount := (s.takeTick next).freeCount } := by
  unfold State.takeTick
  dsimp only
  repeat' split
  all_goals (apply State.ext <;> simp)

@[simp] theorem State.takeTick_pins : (s.takeTick next).pins = s.pins := by rw [State.takeTick_frame]
@[simp] theorem State.takeTick_bus : (s.takeTick next).bus = s.bus := by rw [State.takeTick_frame]
@[simp] theorem State.takeTick_windows : (s.takeTick next).windows = s.windows := by rw [State.takeTick_frame]
@[simp] theorem State.takeTick_wq : (s.takeTick next).wq = s.wq := by rw [State.takeTick_frame]
@[simp] theorem State.takeTick_link : (s.takeTick next).link = s.link := by rw [State.takeTick_frame]
@[simp] theorem State.takeTick_sync : (s.takeTick next).sync = s.sync := by rw [State.takeTick_frame]
@[simp] theorem State.takeTick_counters : (s.takeTick next).counters = s.counters := by rw [State.takeTick_frame]
@[simp] theorem State.takeTick_cmd : (s.takeTick next).cmd = s.cmd := by rw [State.takeTick_frame]
@[simp] theorem State.takeTick_settings : (s.takeTick next).settings = s.settings := by rw [State.takeTick_frame]
@[simp] theorem State.takeTick_sel : (s.takeTick next).sel = s.sel := by rw [State.takeTick_frame]
@[simp] theorem State.takeTick_pending : (s.takeTick next).pending = s.pending := by rw [State.takeTick_frame]
end

section
variable (f : InFrame) (s : State)
/-- A frame received (R106). -/
theorem State.receive_frame :
    s.receive f =
      { s with
        bus := (s.receive f).bus
        dir := (s.receive f).dir
        reads := (s.receive f).reads
        wq := (s.receive f).wq
        link := (s.receive f).link
        notices := (s.receive f).notices
        sweep := (s.receive f).sweep
        sync := (s.receive f).sync
        records := (s.receive f).records
        counters := (s.receive f).counters
        irq := (s.receive f).irq
        freeCount := (s.receive f).freeCount } := by
  unfold State.receive
  repeat' split
  all_goals first | rfl | (unfold State.takeFrameJoining; split <;> rfl) | skip
  unfold State.takeFrame
  split
  all_goals (apply State.ext <;> simp [State.takeLineData, State.takeWordData])

@[simp] theorem State.receive_pins : (s.receive f).pins = s.pins := by rw [State.receive_frame]
@[simp] theorem State.receive_windows : (s.receive f).windows = s.windows := by rw [State.receive_frame]
@[simp] theorem State.receive_cmd : (s.receive f).cmd = s.cmd := by rw [State.receive_frame]
@[simp] theorem State.receive_settings : (s.receive f).settings = s.settings := by rw [State.receive_frame]
@[simp] theorem State.receive_sel : (s.receive f).sel = s.sel := by rw [State.receive_frame]
@[simp] theorem State.receive_pending : (s.receive f).pending = s.pending := by rw [State.receive_frame]
end

end Sys2Proof.Machine
end

