-- ==== Sys2Proof/Laws/Bus.lean ====
section
/-! SUPPORT. Cycles on the local bus: what holds of the bridge when it can take one, and what a DATA write leaves around the
effect on its register, and what a cycle on the INDEX port leaves. -/

namespace Sys2Proof.Machine

variable {s : State}

theorem State.busHeld_of_canCycle (h : s.CanCycle) : s.busHeld = false := by
  simp [State.busHeld, h.1, h.2]

theorem State.busHeld_iff : s.busHeld = false ↔ s.CanCycle := by
  simp [State.busHeld, State.CanCycle]

/-- The bus interface after a DATA write, from what `dataWrite` does to it. -/
theorem State.advance_endWrite (t : State) :
    t.advanceIndex.endWrite false = { t with bus := t.bus.afterDataWrite } := by
  unfold State.advanceIndex State.endWrite BusInterface.afterDataWrite
  split <;> simp_all

/-- A DATA write (R168): the effect on its register, then the index moves on and the cycle ends. -/
theorem State.dataWrite_eq (effect : State → State) (h : s.CanCycle) :
    s.dataWrite effect = { effect s with bus := (effect s).bus.afterDataWrite } := by
  rw [State.dataWrite, State.busHeld_of_canCycle h, ← State.advance_endWrite]
  rfl

/-- A DATA write whose effect stays off the bus interface. -/
theorem State.dataWrite_eq_of_bus (effect : State → State) (h : s.CanCycle) (hb : (effect s).bus = s.bus) :
    s.dataWrite effect = { effect s with bus := s.bus.afterDataWrite } := by
  rw [State.dataWrite_eq effect h, hb]

/-- A DATA write while the bus is held is not taken (log 8). -/
theorem State.dataWrite_held (effect : State → State) (h : s.busHeld = true) : s.dataWrite effect = s := by
  simp [State.dataWrite, h]

/-- A read of the INDEX port ends the cycle and changes nothing else (R167). -/
theorem State.readIndex_eq : s.readIndex = { s with bus := s.bus.afterRead (0#24 ++ s.indexPort) false } := rfl

/-- A write to the INDEX port replaces both its items, and ends the cycle (R167). -/
theorem State.writeIndex_eq (v : Byte) :
    s.writeIndex v =
      { s with bus := { s.bus.afterWrite false with index := v.extractLsb' 0 7, autoIncrement := v.getLsbD 7 } } := rfl

/-- A cycle on the INDEX port while the bus is held is not taken (log 8). -/
theorem State.indexCycle_held (c : IndexCycle) (h : s.busHeld = true) : s.indexCycle c = s := by
  simp [State.indexCycle, h]

end Sys2Proof.Machine
end

