-- ==== Sys2Proof/Laws/Directory.lean ====
section
/-! SUPPORT. The line directory: reading one set after a change, the lookup under the uniqueness law, and what each operation
on a set does to the law of the order (R3). -/

namespace Sys2Proof.Machine

/-! ## One set of the directory -/

theorem Directory.get_put (d : Directory) (i j : SetIndex) (c : CacheSet) :
    (d.put i c).get j = if j = i then c else d.get j := by
  unfold Directory.get Directory.put
  by_cases h : j = i
  · subst h; simp
  · rw [if_neg h]
    exact Vector.getElem_set_ne i.isLt j.isLt fun e => h (BitVec.eq_of_toNat_eq e.symm)

@[simp] theorem Directory.get_put_self (d : Directory) (i : SetIndex) (c : CacheSet) : (d.put i c).get i = c := by
  rw [Directory.get_put, if_pos rfl]

theorem Directory.get_put_ne (d : Directory) {i j : SetIndex} (c : CacheSet) (h : j ≠ i) : (d.put i c).get j = d.get j := by
  rw [Directory.get_put, if_neg h]

@[simp] theorem Directory.put_hold (d : Directory) (i : SetIndex) (c : CacheSet) : (d.put i c).hold = d.hold := rfl

theorem Directory.put_eq_withSet (d : Directory) (i : SetIndex) (c : CacheSet) : d.put i c = d.withSet i c := rfl

@[simp] theorem Directory.put_get (d : Directory) (i : SetIndex) : d.put i (d.get i) = d := by
  cases d with
  | mk sets hold =>
    simp only [Directory.put, Directory.get, Directory.mk.injEq, and_true]
    exact Vector.set_getElem_self i.isLt

theorem length_mapFrom_getElem {α β : Type} (f : Nat → α → β) :
    ∀ (l : List α) (i k : Nat) (h : k < l.length),
      (Vec.mapFrom f i l)[k]'(by rw [Vec.length_mapFrom]; exact h) = f (i + k) l[k]
  | _ :: _, _, 0, _ => rfl
  | _ :: xs, i, k + 1, h => by
    simp only [Vec.mapFrom, List.getElem_cons_succ]
    rw [length_mapFrom_getElem f xs (i + 1) k (by simpa using h)]
    congr 1
    omega

/-- A sweep start releases the FILLING ways of each set (R81). -/
theorem Directory.get_releaseAll (rank : SetIndex → Fin 4 → Nat) (d : Directory) (i : SetIndex) :
    (d.releaseAll rank).get i = (d.get i).releaseAll (rank i) := by
  unfold Directory.get Directory.releaseAll Vec.mapIdx
  simp only [Vector.getElem_mk, List.getElem_toArray]
  rw [length_mapFrom_getElem _ _ _ _ (by simpa using i.isLt)]
  simp

@[simp] theorem Directory.releaseAll_hold (rank : SetIndex → Fin 4 → Nat) (d : Directory) :
    (d.releaseAll rank).hold = d.hold := rfl

/-! ## The lookup -/

theorem CacheSet.tag_of_find {c : CacheSet} {tag : Tag} {w : Fin 4} (h : c.find tag = some w) :
    (c.ways[w]).tag? = some tag := by
  have := List.find?_some h
  simpa [-Fin.getElem_fin] using this

theorem CacheSet.find_eq_none {c : CacheSet} {tag : Tag} : c.find tag = none ↔ ∀ w : Fin 4, (c.ways[w]).tag? ≠ some tag := by
  simp [CacheSet.find, -Fin.getElem_fin, List.find?_eq_none]

/-- Under uniqueness, the way with the tag is the way found (R4). -/
theorem CacheSet.find_eq_some {c : CacheSet} {tag : Tag} {w : Fin 4} (h : (c.ways[w]).tag? = some tag)
    (unique : ∀ v : Fin 4, (c.ways[v]).tag? = some tag → v = w) : c.find tag = some w := by
  cases hf : c.find tag with
  | none => exact absurd h (CacheSet.find_eq_none.mp hf w)
  | some v => rw [unique v (CacheSet.tag_of_find hf)]

theorem Directory.find_of_misses {d : Directory} {a : LineAddr} (h : d.Misses a) : d.find a = none :=
  CacheSet.find_eq_none.mpr h

theorem Directory.findWay_of_misses {d : Directory} {a : LineAddr} (h : d.Misses a) : d.findWay a = none := by
  simp [Directory.findWay, Directory.find_of_misses h]

theorem State.find_of_tag {s : State} {a : LineAddr} {w : Fin 4} (unique : s.UniqueLaw)
    (h : ((s.dir.get (setOf a)).ways[w]).tag? = some (Machine.tagOf a)) : s.dir.find a = some w :=
  CacheSet.find_eq_some h fun v hv => unique (setOf a) v w (Machine.tagOf a) hv h

theorem State.findWay_of_valid {s : State} {a : LineAddr} {w : Fin 4} {data : Line} (unique : s.UniqueLaw)
    (h : (s.dir.get (setOf a)).ways[w] = .valid (Machine.tagOf a) data) :
    s.dir.findWay a = some (w, .valid (Machine.tagOf a) data) := by
  unfold Directory.findWay
  rw [State.find_of_tag (w := w) unique (by rw [h]; rfl)]
  simp only [Option.map_some, h]

theorem State.findWay_of_filling {s : State} {a : LineAddr} {w ref : Fin 4} (unique : s.UniqueLaw)
    (h : (s.dir.get (setOf a)).ways[w] = .filling (Machine.tagOf a) ref) :
    s.dir.findWay a = some (w, .filling (Machine.tagOf a) ref) := by
  unfold Directory.findWay
  rw [State.find_of_tag (w := w) unique (by rw [h]; rfl)]
  simp only [Option.map_some, h]

/-- What a lookup found stands in the way it names, and is not INVALID. -/
theorem Directory.way_of_findWay {d : Directory} {a : LineAddr} {w : Fin 4} {x : Way} (h : d.findWay a = some (w, x)) :
    (d.get (setOf a)).ways[w] = x ∧ x.tag? = some (Machine.tagOf a) := by
  unfold Directory.findWay at h
  cases hf : d.find a with
  | none => simp [hf] at h
  | some v =>
    simp only [hf, Option.map_some, Option.some.injEq, Prod.mk.injEq] at h
    obtain ⟨rfl, rfl⟩ := h
    exact ⟨rfl, CacheSet.tag_of_find hf⟩

theorem Directory.probe_eq_false {d : Directory} {a : LineAddr} : d.probe a = false ↔ d.Misses a := by
  unfold Directory.probe Directory.Misses Directory.find
  rw [← CacheSet.find_eq_none]
  cases CacheSet.find (Machine.tagOf a) (d.get (setOf a)) <;> simp

theorem CacheSet.victim_eq (c : CacheSet) : c.victim = c.lastNotFilling := by
  unfold CacheSet.victim CacheSet.lastNotFilling
  rw [← List.head?_filter, List.filter_reverse, List.head?_reverse]

theorem CacheSet.drop_eq (c : CacheSet) (w : Fin 4) : c.drop w = c.withDropped w := rfl

theorem CacheSet.claim_eq (c : CacheSet) (w : Fin 4) (tag : Tag) (ref : Fin 4) :
    c.claim w tag ref = c.withFront w (.filling tag ref) := rfl

/-! ## The law of the order (R3) -/

theorem CacheSet.orderLaw_cleared : CacheSet.cleared.OrderLaw := by
  refine ⟨List.Perm.refl _, ?_⟩
  decide

theorem CacheSet.mem_order {c : CacheSet} (h : c.OrderLaw) (w : Fin 4) : w ∈ c.order :=
  h.1.mem_iff.mpr (by revert w; decide)

theorem CacheSet.nodup_order {c : CacheSet} (h : c.OrderLaw) : c.order.Nodup :=
  h.1.nodup_iff.mpr (by decide)

theorem CacheSet.perm_front {c : CacheSet} (h : c.OrderLaw) (w : Fin 4) :
    (w :: c.order.filter (fun v => v != w)).Perm [0, 1, 2, 3] := by
  rw [← (c.nodup_order h).erase_eq_filter]
  exact (List.perm_cons_erase (c.mem_order h w)).symm.trans h.1

theorem CacheSet.perm_back {c : CacheSet} (h : c.OrderLaw) (w : Fin 4) :
    (c.order.filter (fun v => v != w) ++ [w]).Perm [0, 1, 2, 3] :=
  (List.perm_append_singleton w _).trans (c.perm_front h w)

/-- One way of a set after one is replaced. -/
theorem CacheSet.getElem_setWay (c : CacheSet) (w v : Fin 4) (x : Way) :
    ((c.setWay w x).ways)[v] = if v = w then x else c.ways[v] := by
  unfold CacheSet.setWay
  by_cases h : v = w
  · subst h; simp
  · rw [if_neg h]
    exact Vector.getElem_set_ne w.isLt v.isLt fun e => h (Fin.ext e.symm)

theorem CacheSet.pairwise_others {c : CacheSet} (h : c.OrderLaw) (w : Fin 4) (x : Way) :
    (c.order.filter (fun v => v != w)).Pairwise fun a b =>
      (((c.setWay w x).ways)[a]).isInvalid = true → (((c.setWay w x).ways)[b]).isInvalid = true := by
  refine (h.2.filter _).imp_of_mem fun {a b} ha hb hab => ?_
  have hne : ∀ {v}, v ∈ c.order.filter (fun v => v != w) → v ≠ w := fun hv => by
    simpa using (List.mem_filter.mp hv).2
  rw [CacheSet.getElem_setWay, CacheSet.getElem_setWay, if_neg (hne ha), if_neg (hne hb)]
  exact hab

/-- A way that enters a state that is not INVALID and moves to the front (R9, R11). -/
theorem CacheSet.orderLaw_front {c : CacheSet} (h : c.OrderLaw) (w : Fin 4) {x : Way} (hx : x.isInvalid = false) :
    ((c.setWay w x).toFront w).OrderLaw := by
  refine ⟨c.perm_front h w, List.pairwise_cons.mpr ⟨fun b _ hw => ?_, c.pairwise_others h w x⟩⟩
  have : (((c.setWay w x).ways)[w]).isInvalid = true := hw
  rw [CacheSet.getElem_setWay, if_pos rfl, hx] at this
  cases this

/-- A way that enters INVALID and moves to the back (R12, R13, R14). -/
theorem CacheSet.orderLaw_drop {c : CacheSet} (h : c.OrderLaw) (w : Fin 4) : (c.drop w).OrderLaw := by
  refine ⟨c.perm_back h w, List.pairwise_append.mpr ⟨c.pairwise_others h w .invalid, List.pairwise_singleton _ _, ?_⟩⟩
  intro a _ b hb _
  rw [List.mem_singleton.mp hb]
  show (((c.setWay w .invalid).ways)[w]).isInvalid = true
  rw [CacheSet.getElem_setWay, if_pos rfl]
  rfl

theorem CacheSet.setWay_self (c : CacheSet) (w : Fin 4) : c.setWay w (c.ways[w]) = c := by
  cases c with
  | mk ways order =>
    simp only [CacheSet.setWay, CacheSet.mk.injEq, and_true]
    exact Vector.set_getElem_self w.isLt

/-- A way that is not INVALID and moves to the front (R6). -/
theorem CacheSet.orderLaw_toFront {c : CacheSet} (h : c.OrderLaw) {w : Fin 4} (hw : (c.ways[w]).isInvalid = false) :
    (c.toFront w).OrderLaw := by
  have := CacheSet.orderLaw_front h w hw
  rwa [CacheSet.setWay_self] at this

theorem CacheSet.orderLaw_claim {c : CacheSet} (h : c.OrderLaw) (w : Fin 4) (tag : Tag) (ref : Fin 4) :
    (c.claim w tag ref).OrderLaw :=
  CacheSet.orderLaw_front h w rfl

theorem CacheSet.orderLaw_install {c : CacheSet} (h : c.OrderLaw) (w : Fin 4) (data : Line) :
    (c.install w data).OrderLaw := by
  unfold CacheSet.install
  split
  · exact CacheSet.orderLaw_front h w rfl
  · exact h
  · exact h

theorem CacheSet.orderLaw_update {c : CacheSet} (h : c.OrderLaw) (w : Fin 4) (bytes : MaskedLine) :
    (c.update w bytes).OrderLaw := by
  unfold CacheSet.update
  split
  · rename_i tag data hw
    refine ⟨h.1, h.2.imp fun {a b} hab => ?_⟩
    have hv : ∀ v : Fin 4, (((c.setWay w (.valid tag (overlay data bytes))).ways)[v]).isInvalid = (c.ways[v]).isInvalid := by
      intro v
      rw [CacheSet.getElem_setWay]
      split
      · rename_i e; rw [e, hw]; rfl
      · rfl
    rw [hv, hv]
    exact hab
  · exact h
  · exact h

theorem CacheSet.orderLaw_releaseAll {c : CacheSet} (h : c.OrderLaw) (rank : Fin 4 → Nat) : (c.releaseAll rank).OrderLaw := by
  unfold CacheSet.releaseAll
  generalize c.fillingByRank rank = ws
  induction ws generalizing c with
  | nil => exact h
  | cons w ws ih => exact ih (CacheSet.orderLaw_drop h w)

/-- A change of one set keeps the law if the change does. -/
theorem State.orderLaw_onSet {s : State} (h : s.OrderLaw) (i : SetIndex) {f : CacheSet → CacheSet}
    (hf : (f (s.dir.get i)).OrderLaw) : (s.onSet i f).OrderLaw := by
  intro j
  show ((s.dir.put i (f (s.dir.get i))).get j).OrderLaw
  rw [Directory.get_put]
  split
  · exact hf
  · exact h j

/-- The law depends on the directory alone. -/
theorem State.orderLaw_of_dir {s t : State} (h : s.OrderLaw) (e : t.dir = s.dir) : t.OrderLaw := by
  unfold State.OrderLaw
  rw [e]
  exact h

end Sys2Proof.Machine
end

