-- ==== Sys2Proof/Laws/Frames.lean ====
section
/-! SUPPORT. Frames: the CRC of a frame with its own CRC bytes is 0 (R177), and the commands that are arrivals as receptions. -/

namespace Sys2Proof.Frames

/-- Eight bits of the computation on a value whose high byte is 0 move the low byte up. -/
theorem crcByte_zero : ∀ b : BitVec 8,
    crcBit (crcBit (crcBit (crcBit (crcBit (crcBit (crcBit (crcBit (0#8 ++ b)))))))) = b ++ 0#8 := by
  decide +kernel

theorem crcByte_high (c : BitVec 16) : crcByte c (c.extractLsb' 8 8) = c.extractLsb' 0 8 ++ 0#8 := by
  have h : c ^^^ (c.extractLsb' 8 8 ++ 0#8) = 0#8 ++ c.extractLsb' 0 8 := by
    apply BitVec.eq_of_getLsbD_eq
    intro i hi
    rw [BitVec.getLsbD_xor, BitVec.getLsbD_append, BitVec.getLsbD_append]
    by_cases h8 : i < 8
    · simp [h8]
    · have : 8 + (i - 8) = i := by omega
      simp [h8, this, show i - 8 < 8 by omega]
  unfold crcByte
  rw [h, crcByte_zero]

theorem crcByte_low (b : BitVec 8) : crcByte (b ++ 0#8) b = 0#16 := by
  unfold crcByte
  rw [BitVec.xor_self]
  decide

/-- The CRC of a frame with its CRC bytes, high byte first, is 0 (R177). -/
theorem crc_withCrc (body : List Byte) : crc (withCrc body) = 0#16 := by
  unfold withCrc crc
  rw [List.foldl_append]
  simp only [List.foldl_cons, List.foldl_nil]
  rw [crcByte_high, crcByte_low]

/-- A frame with its CRC is corrupt only by its kind or length (R105). -/
theorem parse_withCrc (body : List Byte) : parse (withCrc body) = fieldsOf (withCrc body) := by
  simp [parse, crc_withCrc]

end Sys2Proof.Frames

namespace Sys2Proof.Machine

/-- A received frame in a state that takes it while UP (R106). -/
theorem State.receive_up {s : State} (f : InFrame) (hr : s.pins.resetAsserted = false) (hu : s.link.state = .up) :
    s.receive f = s.restartQuiet.takeFrame f := by
  simp [State.receive, hr, hu]

theorem State.receive_joining {s : State} (f : InFrame) (hr : s.pins.resetAsserted = false) (hj : s.link.state = .joining) :
    s.receive f = s.takeFrameJoining f := by
  simp [State.receive, hr, hj]

end Sys2Proof.Machine
end

