-- ==== Sys2Proof/Laws/Vec.lean ====
section
/-! SUPPORT. Reading one element of what the vector operations make, and one byte of what the operand forms make. -/

namespace Sys2Proof.Vec

@[simp] theorem getElem_tabulate {α : Type} {n : Nat} (f : Fin n → α) (k : Nat) (h : k < n) :
    (tabulate f)[k] = f ⟨k, h⟩ := by
  simp [tabulate]

@[simp] theorem getElem_map {α β : Type} {n : Nat} (f : α → β) (v : Vector α n) (k : Nat) (h : k < n) :
    (map f v)[k] = f v[k] := by
  simp [map]

end Sys2Proof.Vec

namespace Sys2Proof.Machine

@[simp] theorem getElem_overlay (buf : Line) (bytes : MaskedLine) (k : Nat) (h : k < 32) :
    (overlay buf bytes)[k] = (bytes[k]).getD buf[k] := by
  simp [overlay]

@[simp] theorem getElem_mergeBytes (older newer : MaskedLine) (k : Nat) (h : k < 32) :
    (mergeBytes older newer)[k] = (newer[k]).or older[k] := by
  simp [mergeBytes]

@[simp] theorem getElem_maskGroup (offset : BitVec 5) (bytes : MaskedLine) (k : Nat) (h : k < 32) :
    (maskGroup offset bytes)[k] = if inGroup offset k then bytes[k] else none := by
  simp [maskGroup]

@[simp] theorem getElem_fillGroup (buffer : Line) (offset : BitVec 5) (data : Vector Byte 4) (k : Nat) (h : k < 32) :
    (fillGroup buffer offset data)[k] =
      if inGroup offset k then data[k % 4]'(Nat.mod_lt _ (by decide)) else buffer[k] := by
  simp [fillGroup]

@[simp] theorem getElem_dataOf (bytes : MaskedLine) (k : Nat) (h : k < 32) : (dataOf bytes)[k] = (bytes[k]).getD 0#8 := by
  simp [dataOf]

end Sys2Proof.Machine
end

