-- ==== Sys2Proof/Laws/Queue.lean ====
section
/-! SUPPORT. The write queue and the transmitter: what the law of the queue's shape says of a run of entries, what keeps
the law of the write entries, which entry an ack names, and when the transmitter takes nothing. -/

namespace Sys2Proof.Machine

/-! ## A run of entries (R48) -/

theorem WriteEntry.isSent_of_seq {e : WriteEntry} {q : Seq} (h : e.seq? = some q) : e.isSent = true := by
  unfold WriteEntry.seq? at h
  unfold WriteEntry.isSent WriteEntry.isQueued
  split at h <;> simp_all

theorem WriteEntry.seq_of_isSent {e : WriteEntry} (h : e.isSent = true) : ∃ q, e.seq? = some q := by
  unfold WriteEntry.isSent WriteEntry.isQueued at h
  unfold WriteEntry.seq?
  split <;> simp_all

theorem WriteEntry.seq_of_isQueued {e : WriteEntry} (h : e.isQueued = true) : e.seq? = none := by
  unfold WriteEntry.isQueued at h
  unfold WriteEntry.seq?
  split <;> simp_all

theorem queueRun_tail {nws : Seq} {e : WriteEntry} {l : List WriteEntry} (h : QueueRun nws (e :: l)) : QueueRun nws l := by
  unfold QueueRun at h
  split at h
  · exact h.2
  · cases l with
    | nil => trivial
    | cons a t =>
      unfold QueueRun
      rw [WriteEntry.seq_of_isQueued (h a (by simp))]
      exact fun f hf => h f (by simp [hf])

/-- Entries that leave from the head leave a run (R58). -/
theorem queueRun_drop {nws : Seq} : ∀ (k : Nat) {l : List WriteEntry}, QueueRun nws l → QueueRun nws (l.drop k)
  | 0, _, h => h
  | _ + 1, [], _ => trivial
  | k + 1, _ :: _, h => queueRun_drop k (queueRun_tail h)

theorem ofNat_succ (k : Nat) : BitVec.ofNat 8 (k + 1) = BitVec.ofNat 8 k + 1#8 := by
  apply BitVec.eq_of_toNat_eq
  simp

theorem step_before (q o o' n c : BitVec 8) (h1 : o' + (c + 1#8) = n) (h2 : o + c = n) : q - o' = (q - o) + 1#8 := by
  bv_omega

theorem step_after (o' o n c k : BitVec 8) (h1 : o + (c + 1#8) = n) (h2 : o' + c = n) : o' + k = o + (k + 1#8) := by
  bv_omega

/-- In a run, a SENT entry stands as far behind the oldest as its sequence number says, with SENT entries only ahead. -/
theorem queueRun_position {nws : Seq} : ∀ (gone : List WriteEntry) (n : WriteEntry) (rest : List WriteEntry) (q : Seq),
    QueueRun nws (gone ++ n :: rest) → n.seq? = some q →
    ∃ o e t, gone ++ n :: rest = e :: t ∧ e.seq? = some o ∧ q - o = BitVec.ofNat 8 gone.length ∧
      ∀ f ∈ gone, f.isSent = true
  | [], n, rest, q, _, hq => ⟨q, n, rest, rfl, hq, by simp, by simp⟩
  | g :: gs, n, rest, q, h, hq => by
    obtain ⟨o, e, t, he, ho, hd, hs⟩ := queueRun_position gs n rest q (queueRun_tail h) hq
    have h' := h
    simp only [List.cons_append] at h'
    unfold QueueRun at h'
    split at h'
    · rename_i o' ho'
      refine ⟨o', g, gs ++ n :: rest, rfl, ho', ?_, ?_⟩
      · have h2 := h'.2
        rw [he] at h2
        unfold QueueRun at h2
        rw [ho] at h2
        have h1 := h'.1
        rw [he, List.countP_cons_of_pos (WriteEntry.isSent_of_seq ho'), ofNat_succ] at h1
        rw [List.length_cons, ofNat_succ, ← hd]
        exact step_before _ _ _ _ _ h1 h2.1
      · intro f hf
        rcases List.mem_cons.mp hf with rfl | hf
        · exact WriteEntry.isSent_of_seq ho'
        · exact hs f hf
    · have h3 := WriteEntry.isSent_of_seq hq
      simp [WriteEntry.isSent, h' n (by simp)] at h3

/-- An ack whose sequence number is a SENT entry's names it, and removes it and the entries ahead of it (R57). -/
theorem WriteQueue.named_of_sent {q : WriteQueue} {seq : Seq} {gone rest : List WriteEntry} {n : WriteEntry}
    (hl : q.entries.length ≤ 8) (hr : QueueRun q.nws q.entries) (he : q.entries = gone ++ n :: rest)
    (hn : n.seq? = some seq) : q.named seq = some (gone.length + 1) := by
  have hr' := hr
  rw [he] at hr'
  obtain ⟨o, e, t, h1, h2, h3, h4⟩ := queueRun_position gone n rest seq hr' hn
  unfold WriteQueue.named
  have hf : q.entries.find? WriteEntry.isSent = some e := by
    rw [he, h1]
    simp [WriteEntry.isSent_of_seq h2]
  rw [hf]
  simp only [h2]
  have hg : gone.length < 8 := by
    rw [he] at hl
    simp at hl
    omega
  have h5 : (seq - o).toNat = gone.length := by
    rw [h3]
    simp
    omega
  rw [h5, if_pos]
  rw [he, List.countP_append, List.countP_cons_of_pos (WriteEntry.isSent_of_seq hn), List.countP_eq_length.mpr h4]
  omega

/-- In a run, every count below the number of SENT entries is reached by a SENT entry. -/
theorem queueRun_reached {nws : Seq} : ∀ (l : List WriteEntry) (o : Seq) (e : WriteEntry) (k : Nat), QueueRun nws (e :: l) →
    e.seq? = some o → k < (e :: l).countP WriteEntry.isSent → ∃ f ∈ e :: l, f.seq? = some (o + BitVec.ofNat 8 k)
  | _, o, e, 0, _, ho, _ => ⟨e, by simp, by simp [ho]⟩
  | [], o, e, k + 1, _, ho, hk => by simp [WriteEntry.isSent_of_seq ho] at hk
  | e' :: l, o, e, k + 1, h, ho, hk => by
    have ht := queueRun_tail h
    rw [List.countP_cons_of_pos (WriteEntry.isSent_of_seq ho)] at hk
    have h1 := h
    unfold QueueRun at h1
    rw [ho] at h1
    cases hs : e'.seq? with
    | none =>
      unfold QueueRun at ht
      rw [hs] at ht
      have : (e' :: l).countP WriteEntry.isSent = 0 := by
        rw [List.countP_eq_zero]
        intro f hf
        rcases List.mem_cons.mp hf with rfl | hf
        · intro hc
          obtain ⟨q, hq⟩ := WriteEntry.seq_of_isSent hc
          rw [hs] at hq
          cases hq
        · simp [WriteEntry.isSent, ht f hf]
      omega
    | some o' =>
      obtain ⟨f, hf, hfs⟩ := queueRun_reached l o' e' k ht hs (by omega)
      refine ⟨f, List.mem_cons_of_mem e hf, ?_⟩
      rw [hfs]
      have h2 := ht
      unfold QueueRun at h2
      rw [hs] at h2
      have h3 := h1.1
      rw [List.countP_cons_of_pos (WriteEntry.isSent_of_seq ho), ofNat_succ] at h3
      rw [ofNat_succ]
      exact congrArg some (step_after _ _ _ _ _ h3 h2.1)

/-- In a run, the oldest SENT entry is the oldest entry. -/
theorem queueRun_oldest {nws : Seq} {l : List WriteEntry} {e : WriteEntry} (h : QueueRun nws l)
    (hf : l.find? WriteEntry.isSent = some e) : ∃ t, l = e :: t := by
  cases l with
  | nil => simp at hf
  | cons a t =>
    cases ha : a.isSent
    · exfalso
      unfold QueueRun at h
      rw [WriteEntry.seq_of_isQueued (by simpa [WriteEntry.isSent] using ha)] at h
      simp [ha] at hf
      have h2 := List.find?_some hf
      simp [WriteEntry.isSent, h e (List.mem_of_find?_eq_some hf)] at h2
    · simp [ha] at hf
      exact ⟨t, by rw [hf]⟩

/-- An ack whose sequence number no entry has names none (R57). -/
theorem WriteQueue.named_none {q : WriteQueue} {seq : Seq} (hr : QueueRun q.nws q.entries)
    (hn : ∀ e ∈ q.entries, e.seq? ≠ some seq) : q.named seq = none := by
  unfold WriteQueue.named
  cases hf : q.entries.find? WriteEntry.isSent with
  | none => rfl
  | some e =>
    obtain ⟨t, ht⟩ := queueRun_oldest hr hf
    obtain ⟨o, ho⟩ := WriteEntry.seq_of_isSent (List.find?_some hf)
    simp only [ho]
    rw [if_neg]
    intro hlt
    rw [ht] at hr hlt
    obtain ⟨f, hf, hfs⟩ := queueRun_reached t o e _ hr ho hlt
    apply hn f (by rw [ht]; exact hf)
    rw [hfs, BitVec.ofNat_toNat, BitVec.setWidth_eq]
    exact congrArg some (show o + (seq - o) = seq by rw [BitVec.add_comm, BitVec.sub_add_cancel])

/-! ## The law of the write entries (R47, R48) -/

theorem entriesLaw_nil : EntriesLaw [] := ⟨by simp, by simp, by simp, by simp⟩

/-- Entries that leave, from wherever, leave a lawful queue (R58, R67). -/
theorem entriesLaw_sublist {l l' : List WriteEntry} (h : EntriesLaw l) (hs : l'.Sublist l) : EntriesLaw l' where
  replay := h.replay.sublist (hs.filter _)
  mark := Nat.le_trans hs.countP_le h.mark
  bytes := fun e he => h.bytes e (hs.subset he)
  closed := fun e he => h.closed e (hs.subset he)

/-- A go-back replay keeps the law (R62). -/
theorem entriesLaw_flagged {l : List WriteEntry} (h : EntriesLaw l) : EntriesLaw (l.map WriteEntry.flagged) := by
  have hm : ∀ e : WriteEntry, e.flagged.mark = e.mark ∧ e.flagged.bytes = e.bytes ∧ e.flagged.posted = e.posted ∧
      e.flagged.closed = e.closed ∧ (e.flagged.isSent = true → e.flagged.isReplay = true) := by
    intro e
    unfold WriteEntry.flagged
    cases hs : e.state <;> simp [WriteEntry.isSent, WriteEntry.isQueued, WriteEntry.isReplay, hs]
  constructor
  · refine List.pairwise_of_forall_mem_list fun a _ b hb _ => ?_
    obtain ⟨hb, hs⟩ := List.mem_filter.mp hb
    obtain ⟨e, _, rfl⟩ := List.mem_map.mp hb
    exact (hm e).2.2.2.2 hs
  · rw [List.countP_map]
    exact (List.countP_congr fun e _ => by simp [(hm e).1]).trans_le h.mark
  · intro e he
    obtain ⟨f, hf, rfl⟩ := List.mem_map.mp he
    rw [(hm f).2.1]
    exact h.bytes f hf
  · intro e he
    obtain ⟨f, hf, rfl⟩ := List.mem_map.mp he
    rw [(hm f).1, (hm f).2.2.1, (hm f).2.2.2.1]
    exact h.closed f hf

/-- What the acceptance of a SYNC command makes of an entry: its mark and its closed flag alone change. -/
theorem markYoungest_mem : ∀ (l : List WriteEntry) (e : WriteEntry), e ∈ markYoungest l →
    ∃ f ∈ l, e.bytes = f.bytes ∧ e.posted = f.posted ∧ (e.mark = true → e.closed = true) ∧
      (f.closed = true → e.closed = true)
  | [], e, h => by cases h
  | [f], e, h => by
    have h := List.mem_singleton.mp h
    exact ⟨f, by simp, by simp [h]⟩
  | f :: g :: rest, e, h => by
    rcases List.mem_cons.mp h with rfl | h
    · exact ⟨f, by simp, by simp⟩
    · obtain ⟨k, hk, hh⟩ := markYoungest_mem (g :: rest) e h
      exact ⟨k, List.mem_cons_of_mem f hk, hh⟩

theorem markYoungest_count : ∀ l : List WriteEntry, (markYoungest l).countP WriteEntry.mark ≤ 1
  | [] => by simp [markYoungest]
  | [e] => by simp [markYoungest]
  | e :: f :: rest => by
    rw [markYoungest, List.countP_cons_of_neg (by simp)]
    exact markYoungest_count (f :: rest)

/-- The states of the entries are kept by the acceptance of a SYNC command. -/
theorem markYoungest_state : ∀ l : List WriteEntry, (markYoungest l).map WriteEntry.state = l.map WriteEntry.state
  | [] => rfl
  | [_] => rfl
  | e :: f :: rest => by
    rw [markYoungest, List.map_cons, markYoungest_state (f :: rest)]
    rfl

/-- The replay clause of the law speaks of the entries' states alone. -/
theorem replay_of_states {l l' : List WriteEntry} (h : l'.map WriteEntry.state = l.map WriteEntry.state) :
    ((l.filter WriteEntry.isSent).Pairwise fun a b => a.isReplay = true → b.isReplay = true) →
    (l'.filter WriteEntry.isSent).Pairwise fun a b => a.isReplay = true → b.isReplay = true := by
  let sent : WriteState → Bool := fun x => match x with
    | .queued => false
    | .sent _ _ => true
  let flag : WriteState → Bool := fun x => match x with
    | .queued => false
    | .sent _ r => r
  have hs : WriteEntry.isSent = sent ∘ WriteEntry.state := by
    funext e
    unfold WriteEntry.isSent WriteEntry.isQueued
    cases hx : e.state <;> simp [sent, hx]
  have hf : ∀ e : WriteEntry, e.isReplay = flag e.state := by
    intro e
    unfold WriteEntry.isReplay
    cases hx : e.state <;> simp [flag]
  have key : ∀ k : List WriteEntry,
      (k.filter WriteEntry.isSent).Pairwise (fun a b => a.isReplay = true → b.isReplay = true) ↔
      ((k.map WriteEntry.state).filter sent).Pairwise (fun a b => flag a = true → flag b = true) := by
    intro k
    rw [List.filter_map, List.pairwise_map, ← hs]
    simp only [hf]
  rw [key, key, h]
  exact id

/-- The acceptance of a SYNC command keeps the law (R54, R47). -/
theorem entriesLaw_markYoungest {l : List WriteEntry} (h : EntriesLaw l) : EntriesLaw (markYoungest l) where
  replay := replay_of_states (markYoungest_state l) h.replay
  mark := markYoungest_count l
  bytes := fun e he => by
    obtain ⟨f, hf, hb, _⟩ := markYoungest_mem l e he
    rw [hb]
    exact h.bytes f hf
  closed := fun e he hc => by
    obtain ⟨f, hf, _, hp, hm, hk⟩ := markYoungest_mem l e he
    rcases hc with hc | hc
    · exact hm hc
    · exact hk (h.closed f hf (.inr (by rw [← hp, hc])))

/-- A taken write keeps the law, merged or appended (R51, R52). -/
theorem WriteQueue.take_entriesLaw {a : Access} {q q' : WriteQueue} (h : EntriesLaw q.entries) (ht : q.take a = some q') :
    EntriesLaw q'.entries := by
  have hb : ∃ k : Fin 32, (a.bytes[k]).isSome = true := by
    refine ⟨(byteOffset a.remote).toFin, ?_⟩
    unfold Access.bytes placeBytes
    have h := (byteOffset a.remote).isLt
    cases a.size <;> simp [sizeBytes, Nat.sub_add_cancel (Nat.le_of_lt h)]
  have happ : EntriesLaw (q.entries ++ [a.entry]) := by
    constructor
    · rw [List.filter_append, show [a.entry].filter WriteEntry.isSent = [] from rfl, List.append_nil]
      exact h.replay
    · rw [List.countP_append, show [a.entry].countP WriteEntry.mark = 0 from rfl]
      exact h.mark
    · intro e he
      rcases List.mem_append.mp he with he | he
      · exact h.bytes e he
      · rw [List.mem_singleton.mp he]
        exact hb
    · intro e he
      rcases List.mem_append.mp he with he | he
      · exact h.closed e he
      · rw [List.mem_singleton.mp he]
        simp [Access.entry]
  unfold WriteQueue.take at ht
  split at ht
  · rename_i y hy
    split at ht
    · cases ht
      have hd : q.entries = q.entries.dropLast ++ [y] := (List.dropLast_append_getLast? y hy).symm
      constructor
      · refine replay_of_states (l := q.entries) ?_ h.replay
        conv => rhs; rw [hd]
        simp
      · have := h.mark
        rw [hd, List.countP_append] at this
        simpa [List.countP_append, List.countP_cons] using this
      · intro e he
        rcases List.mem_append.mp he with he | he
        · exact h.bytes e (List.dropLast_subset _ he)
        · obtain ⟨k, hk⟩ := h.bytes y (by rw [hd]; simp)
          rw [List.mem_singleton.mp he]
          exact ⟨k, by simpa using .inr hk⟩
      · intro e he
        rcases List.mem_append.mp he with he | he
        · exact h.closed e (List.dropLast_subset _ he)
        · rw [List.mem_singleton.mp he]
          exact h.closed y (by rw [hd]; simp)
    · split at ht
      · cases ht
        exact happ
      · cases ht
  · rename_i hn
    cases ht
    rw [List.getLast?_eq_none_iff] at hn
    rw [hn] at happ
    exact happ

/-- The offered entry, sent, keeps the law (R56): the first send comes when no replay waits, and a replay is of the oldest
flagged entry. -/
theorem entriesLaw_offered {l : List WriteEntry} {i : Nat} {e : WriteEntry} (seq : Seq) (h : EntriesLaw l)
    (ho : writeOffer l = some i) (hi : l[i]? = some e) :
    EntriesLaw (l.set i { e with state := .sent seq false }) := by
  obtain ⟨hlt, he⟩ := List.getElem?_eq_some_iff.mp hi
  have hl : l = l.take i ++ e :: l.drop (i + 1) := by
    rw [← he, List.getElem_cons_drop, List.take_append_drop]
  have hset : l.set i { e with state := .sent seq false } =
      l.take i ++ { e with state := .sent seq false } :: l.drop (i + 1) := List.set_eq_take_append_cons_drop.trans (if_pos hlt)
  have hpre : ∀ f ∈ l.take i, f.isReplay = false := by
    intro f hf
    unfold writeOffer at ho
    split at ho
    · rename_i j hj
      cases ho
      obtain ⟨_, _, hn⟩ := List.findIdx?_eq_some_iff_getElem.mp hj
      obtain ⟨k, hk, rfl⟩ := List.mem_take_iff_getElem.mp hf
      simpa using hn k (by omega)
    · rename_i hn
      exact List.findIdx?_eq_none_iff.mp hn f (List.mem_of_mem_take hf)
  have hmem : ∀ f ∈ l.set i { e with state := .sent seq false },
      ∃ g ∈ l, f.bytes = g.bytes ∧ f.mark = g.mark ∧ f.posted = g.posted ∧ f.closed = g.closed := by
    intro f hf
    rcases List.mem_or_eq_of_mem_set hf with hf | rfl
    · exact ⟨f, hf, rfl, rfl, rfl, rfl⟩
    · exact ⟨e, List.mem_of_getElem? hi, rfl, rfl, rfl, rfl⟩
  constructor
  · have hr := h.replay
    rw [hl, List.filter_append, List.pairwise_append] at hr
    rw [hset, List.filter_append, List.pairwise_append, List.filter_cons_of_pos rfl, List.pairwise_cons]
    refine ⟨hr.1, ⟨fun f _ hx => absurd hx Bool.false_ne_true, ?_⟩, fun f hf g _ hx => ?_⟩
    · exact hr.2.1.sublist ((List.sublist_cons_self e _).filter _)
    · rw [hpre f (List.mem_filter.mp hf).1] at hx
      cases hx
  · have hm := h.mark
    rw [hl, List.countP_append, List.countP_cons] at hm
    rw [hset, List.countP_append, List.countP_cons]
    exact hm
  · intro f hf
    obtain ⟨g, hg, hb, _⟩ := hmem f hf
    rw [hb]
    exact h.bytes g hg
  · intro f hf
    obtain ⟨g, hg, _, hm, hp, hc⟩ := hmem f hf
    rw [hm, hp, hc]
    exact h.closed g hg

/-! ## The transmitter (R102, R103) -/

/-- The transmitter takes nothing while it sends, or when nothing is offered. -/
theorem State.transmit_of_noOffer {s : State} (h : s.link.tx = .free → ¬ s.Offered) : s.transmit = s := by
  unfold State.transmit
  split
  · rfl
  · split
    · rfl
    · rename_i ht
      have h := h ht
      simp only [State.Offered, not_or] at h
      obtain ⟨h1, h2, h3, h4⟩ := h
      rw [if_neg h1]
      split
      · rename_i hl
        exact absurd hl (by simp at h2; rw [h2]; simp)
      · split
        · rename_i hw
          rw [hw] at h3
          simp at h3
        · rw [if_neg h4]

/-- An effect that offers nothing new leaves the transmitter at rest. -/
theorem State.transmit_of_same {s t : State} (law : s.TransmitterLaw) (h1 : t.link = s.link)
    (h2 : t.reads.sendList = s.reads.sendList) (h3 : t.wq = s.wq) (h4 : t.sync = s.sync) : t.transmit = t := by
  apply State.transmit_of_noOffer
  simp only [State.Offered, h1, h2, h3, h4]
  exact law

/-- The queue offers nothing exactly when every entry is SENT and none waits for a replay (R56). -/
theorem writeOffer_eq_none (l : List WriteEntry) :
    writeOffer l = none ↔ (∀ f ∈ l, f.isReplay = false) ∧ ∀ f ∈ l, f.isSent = true := by
  unfold writeOffer
  cases h : l.findIdx? WriteEntry.isReplay with
  | none =>
    simp only [List.findIdx?_eq_none_iff] at h ⊢
    simp [WriteEntry.isSent]
    intro _ f hf
    simpa using h f hf
  | some i =>
    obtain ⟨h1, h2, _⟩ := List.findIdx?_eq_some_iff_getElem.mp h
    simp
    intro hh
    exfalso
    have := hh _ (List.getElem_mem h1)
    simp [h2] at this

/-- A write merges into an entry exactly when R51's conditions hold. -/
theorem WriteEntry.accepts_iff (y : WriteEntry) (a : Access) : y.accepts a = true ↔ y.Takes a := by
  unfold WriteEntry.accepts WriteEntry.Takes Access.isPosted WriteEntry.isQueued
  cases y.state <;> simp <;> tauto

end Sys2Proof.Machine
end

