-- ==== Sys2Proof/Laws/Reads.lean ====
section
/-! SUPPORT. The path of a read: the window match, the entry that is taken, the outcome of a lookup, and the resumes that find
no wait. -/

namespace Sys2Proof.Machine

variable {s : State}

/-- The match finds the window that an access passes (R119). -/
theorem State.matchWindow_of_passes {offset : Offset} {size : Size} {w : Bool} {i : Fin 8}
    (h : s.Passes offset size w i) : s.matchWindow offset = some i := by
  unfold State.matchWindow
  rw [List.find?_eq_some_iff_append]
  refine ⟨by simp [-Fin.getElem_fin, Window.covers, h.enabled, h.above, h.below], (List.finRange 8).take i.val,
    (List.finRange 8).drop (i.val + 1), ?_, ?_⟩
  · clear h
    revert i
    decide
  · intro j hj
    have hlt : j < i := by
      rw [List.mem_take_iff_getElem] at hj
      obtain ⟨k, hk, rfl⟩ := hj
      simp at hk ⊢
      exact hk
    have hlow := h.lowest j hlt
    cases he : (s.windows[j]).enabled
    · simp [-Fin.getElem_fin, Window.covers, he]
    · have := hlow he
      simp [-Fin.getElem_fin, Window.covers, he]
      omega

/-- The match finds nothing when no enabled window contains the offset (R130). -/
theorem State.matchWindow_none {offset : Offset}
    (h : ∀ i : Fin 8, (s.windows[i]).enabled = true → ¬ ((s.windows[i]).localBase ≤ offset.toNat ∧
      offset.toNat < (s.windows[i]).localBase + (s.windows[i]).size)) : s.matchWindow offset = none := by
  unfold State.matchWindow
  rw [List.find?_eq_none]
  intro j _
  cases he : (s.windows[j]).enabled
  · simp [-Fin.getElem_fin, Window.covers, he]
  · have := h j he
    simp [-Fin.getElem_fin, Window.covers, he]
    omega

/-- The entry taken is the lowest-numbered FREE one (R28). -/
theorem State.freeEntry_of_lowest {tag : Fin 4} (h : s.reads.LowestFree tag) : s.freeEntry = some tag := by
  unfold State.freeEntry
  rw [List.find?_eq_some_iff_append]
  refine ⟨by simp [-Fin.getElem_fin, h.1], (List.finRange 4).take tag.val, (List.finRange 4).drop (tag.val + 1), ?_, ?_⟩
  · clear h
    revert tag
    decide
  · intro j hj
    have hlt : j < tag := by
      rw [List.mem_take_iff_getElem] at hj
      obtain ⟨k, hk, rfl⟩ := hj
      simp at hk ⊢
      exact hk
    have := h.2 j hlt
    cases hh : (s.reads.entries[j]).work <;> simp_all [-Fin.getElem_fin]

theorem State.freeEntry_none (h : ∀ tag : Fin 4, (s.reads.entries[tag]).work ≠ none) : s.freeEntry = none := by
  unfold State.freeEntry
  rw [List.find?_eq_none]
  intro j _
  have := h j
  cases hh : (s.reads.entries[j]).work <;> simp_all [-Fin.getElem_fin]

/-- A LINE entry taken with the victim it is offered (R8, R9, R29). -/
theorem State.takeLine_offered (s : State) (tag : Fin 4) (a : LineAddr) (p : Purpose) (window : Fin 8) (waiter : Bool) :
    s.takeLine tag a p window waiter (s.offerVictim a) = s.withLineTaken tag a p window waiter := by
  unfold State.takeLine State.withLineTaken State.offerVictim State.claim
  rw [CacheSet.victim_eq]
  cases (if s.sweep.isRunning || s.dir.hold then none else (s.dir.get (setOf a)).lastNotFilling) with
  | none => rfl
  | some w => rfl

/-! ## The lookup (R4) -/

theorem State.lookup_of_valid {a : LineAddr} {w : Fin 4} {data : Line} (unique : s.UniqueLaw)
    (hs : s.sweep.isRunning = false) (h : (s.dir.get (setOf a)).ways[w] = .valid (Machine.tagOf a) data) :
    s.lookup a = .hit w data := by
  unfold State.lookup
  rw [State.findWay_of_valid unique h]
  simp [hs]

theorem State.lookup_of_filling {a : LineAddr} {w ref : Fin 4} (unique : s.UniqueLaw)
    (hs : s.sweep.isRunning = false) (h : (s.dir.get (setOf a)).ways[w] = .filling (Machine.tagOf a) ref) :
    s.lookup a = .inFlight ref := by
  unfold State.lookup
  rw [State.findWay_of_filling unique h]
  simp [hs]

theorem State.lookup_of_miss {a : LineAddr} (h : s.sweep.isRunning = true ∨ s.dir.Misses a) :
    s.lookup a = .miss (s.offerVictim a) := by
  unfold State.lookup State.offerVictim
  cases hs : s.sweep.isRunning
  · rcases h with h | h
    · rw [hs] at h
      cases h
    · rw [Directory.findWay_of_misses h]
      rfl
  · rfl

/-- A way moved to the front as it stands (R6). -/
theorem CacheSet.toFront_eq {c : CacheSet} {w : Fin 4} {x : Way} (h : c.ways[w] = x) : c.toFront w = c.withFront w x := by
  subst h
  have := congrArg (CacheSet.toFront w) (CacheSet.setWay_self c w)
  exact this.symm

/-! ## Resumes that find no wait -/

theorem State.resumeFreeEntry_idle (h : ∀ a, s.bus.access = some a → a.wait ≠ .freeEntry) : s.resumeFreeEntry = s := by
  unfold State.resumeFreeEntry
  split
  · rename_i a ha
    rw [if_neg]
    simp [h a ha]
  · rfl

theorem State.resumeQueueSpace_idle (h : ∀ a, s.bus.access = some a → a.wait ≠ .queueSpace) : s.resumeQueueSpace = s := by
  unfold State.resumeQueueSpace
  split
  · rename_i a ha
    rw [if_neg]
    simp [h a ha]
  · rfl

theorem State.resumeQueueEmpty_idle (h : ∀ a, s.bus.access = some a → a.wait ≠ .queueEmpty) : s.resumeQueueEmpty = s := by
  unfold State.resumeQueueEmpty
  split
  · rename_i a ha
    rw [if_neg]
    simp [h a ha]
  · rfl

/-! ## A line dropped (R13, R14) -/

theorem State.dropLine_of_misses {a : LineAddr} (h : s.dir.Misses a) : s.dropLine a = s := by
  simp [State.dropLine, Directory.findWay_of_misses h]

theorem State.dropLine_of_valid {a : LineAddr} {w : Fin 4} {data : Line} (unique : s.UniqueLaw)
    (h : (s.dir.get (setOf a)).ways[w] = .valid (Machine.tagOf a) data) :
    s.dropLine a = { s with dir := s.dir.withSet (setOf a) ((s.dir.get (setOf a)).withDropped w) } := by
  simp only [State.dropLine, State.findWay_of_valid unique h]
  rfl

theorem ReadWork.release_eq (w : ReadWork) : w.release = { w with request := w.request.wayless } := by
  cases w with
  | mk r _ _ _ => cases r <;> rfl

theorem State.releaseEntry_eq (s : State) (ref : Fin 4) : s.releaseEntry ref = { s with reads := s.reads.withoutTarget ref } := by
  unfold State.releaseEntry State.setEntry ReadTable.withoutTarget ReadTable.withEntry ReadEntry.onWork
  simp only [show ReadWork.release = fun w : ReadWork => { w with request := w.request.wayless } from
    funext ReadWork.release_eq]

theorem State.dropLine_of_filling {a : LineAddr} {w ref : Fin 4} (unique : s.UniqueLaw)
    (h : (s.dir.get (setOf a)).ways[w] = .filling (Machine.tagOf a) ref) :
    s.dropLine a = { s with dir := s.dir.withSet (setOf a) ((s.dir.get (setOf a)).withDropped w),
                            reads := s.reads.withoutTarget ref } := by
  simp only [State.dropLine, State.findWay_of_filling unique h, State.releaseEntry_eq]
  rfl

end Sys2Proof.Machine
end

