-- ==== Sys2Proof/Laws/Windows.lean ====
section
/-! SUPPORT. The window table: what keeps its law (R113, R116). -/

namespace Sys2Proof.Machine

/-- A replaced entry keeps the law if it is disabled or passes the three checks (R116, R117). -/
theorem windowLaw_setWindow {s : State} {i : Fin 8} {w : Window} (h : s.WindowLaw) (hw : w.enabled = true → w.usable = true) :
    (s.setWindow i w).WindowLaw := by
  intro j
  by_cases hj : j = i
  · subst hj
    simp [State.setWindow]
    intro he
    have := hw he
    simpa [Window.usable, and_assoc] using this
  · have : (s.setWindow i w).windows[j] = s.windows[j] := by
      simp [State.setWindow, Fin.val_ne_of_ne (Ne.symm hj)]
    rw [this]
    exact h j

/-- A field write keeps the law: an enabled entry ignores it, a disabled one stays disabled (R114). -/
theorem windowLaw_writeWindowField {s : State} (field : WindowField) (v : Half) (h : s.WindowLaw) :
    (s.writeWindowField field v).WindowLaw := by
  unfold State.writeWindowField
  dsimp only
  split
  · exact h
  · rename_i hd
    refine windowLaw_setWindow h fun he => absurd ?_ hd
    cases field <;> exact he

end Sys2Proof.Machine
end

