-- ==== Sys2Proof/WellFormed.lean ====
section
/-! DEFINITION. The well-formed commands: what a command's operands must be for the row's event to be the one that is meant.
The machine gives every command a meaning, well-formed or not. -/

namespace Sys2Proof

/-- The byte enables of a cycle name no byte beyond the aperture's end (R127; log 13). -/
def Cycle.inAperture (c : Cycle) : Bool :=
  match c.enables.toNat with
  | 0 | 1 => true
  | 2 | 3 => c.address.toNat + 1 ≤ 0x3FFFFFF
  | 4 | 5 | 6 | 7 => c.address.toNat + 2 ≤ 0x3FFFFFF
  | _ => c.address.toNat + 3 ≤ 0x3FFFFFF

/-- The command codes of R178. -/
def isCommandCode (v : Half) : Bool :=
  1 ≤ v.toNat && v.toNat ≤ 0x0B

/-- Well-formed commands. -/
def Instr.wellFormed : Instr → Bool
  | .apertureRead c => c.inAperture
  | .apertureWrite c _ => c.inAperture
  | .unknownCommand v => !isCommandCode v
  | .corruptFrame bytes => (Frames.parse bytes).isNone
  | .resetInput _ | .resetDeassertion | .readResumesFreeEntry | .writeResumesQueueSpace | .orderedReadDispatch
  | .indexWrite _ | .dataWrongWidth _ | .registerWrite _ | .windowFieldWrite _ _ | .interruptFlagClear _
  | .interruptEnableWrite _ | .join | .stop | .softReset | .sweep | .sync | .popRecord | .invalidateLine
  | .enableWindow | .disableWindow | .clearCounters | .clearOverflow | .welcome _ | .lineData _ _ _ _
  | .wordData _ _ _ _ | .writeAck _ _ _ | .syncAck _ | .notice _ _ | .tick _ | .restart | .frameWhileDown _
  | .transmissionEnd | .responseTimerExpiry _ | .writeTimerExpiry | .syncTimerExpiry | .joinTimerExpiry
  | .quietTimerExpiry | .sweepStep | .dataRead => true

end Sys2Proof
end

