-- ==== Sys2Proof/Tests/Slice0.lean ====
section
/-! SUPPORT. The model's own tests: ill-formed commands that the check refuses, single steps whose values the spec's text gives,
and for each statement with hypotheses a concrete state and operands that meet them. -/

namespace Sys2Proof.Tests

open Sys2Proof.Machine

set_option Elab.async false -- one theorem at a time: many at once need a thread and a stack each

/-! ## Well-formedness: one ill-formed command for each check, and a well-formed neighbour -/

theorem test_wf_read_beyond : (Instr.apertureRead ⟨0x3FFFFFF#26, 3#4⟩).wellFormed = false := by decide

theorem test_wf_read_last : (Instr.apertureRead ⟨0x3FFFFFC#26, 15#4⟩).wellFormed = true := by decide

theorem test_wf_write_beyond : (Instr.apertureWrite ⟨0x3FFFFFD#26, 15#4⟩ 0#32).wellFormed = false := by decide

theorem test_wf_write_last : (Instr.apertureWrite ⟨0x3FFFFFF#26, 1#4⟩ 0#32).wellFormed = true := by decide

theorem test_wf_code_is_known : (Instr.unknownCommand 0x0B#16).wellFormed = false := by decide

theorem test_wf_code_is_unknown : (Instr.unknownCommand 0x0C#16).wellFormed = true := by decide

/-- The bytes of an intact RESTART are no corrupt frame. -/
theorem test_wf_frame_is_intact : (Instr.corruptFrame (Frames.inBytes .restart)).wellFormed = false := by decide +kernel

theorem test_wf_frame_is_corrupt : (Instr.corruptFrame [0x27#8, 0#8, 0#8]).wellFormed = true := by decide +kernel

/-! ## The states of the tests -/

/-- The state a command leaves. -/
def after (c : Instr) (s : State) : State :=
  match exec c s with
  | .next t => t
  | .fault _ => s
  | .refused _ => s

/-- A link that is UP, with its quiet timer running and the transmitter FREE. -/
def upLink : LinkController :=
  { LinkController.reset 5#4 with state := .up, quietTimer := .running 2048 }

/-- A 4 KB window from local 0 to remote 0. -/
def window (attrs : Attrs) : Window :=
  { Window.reset with enabled := true, attrs := attrs }

/-- The link UP and window 0 enabled with the given attributes. -/
def wired (attrs : Attrs) : State :=
  { State.reset with link := upLink, windows := State.reset.windows.set 0 (window attrs) }

/-- CACHEABLE, PREFETCH and POSTED. -/
def cached : Attrs := { Attrs.clear with cacheable := true, prefetch := true, posted := true }

/-- A line of the byte 5AH. -/
def line5A : Line := Vector.replicate 32 0x5A#8

/-- The set with way 0 VALID for tag 0 and at the front. -/
def validSet : CacheSet := { CacheSet.cleared with ways := #v[.valid 0#15 line5A, .invalid, .invalid, .invalid] }

/-- The set with way 0 FILLING for tag 0 under entry 0 and at the front. -/
def fillingSet : CacheSet := { CacheSet.cleared with ways := #v[.filling 0#15 0, .invalid, .invalid, .invalid] }

/-- Window 0 with line 0 VALID. -/
def withLine : State := { wired cached with dir := State.reset.dir.put 0#8 validSet }

/-- The work of a demand fill of line 0 into way 0 of set 0. -/
def demand (phase : Phase) : ReadWork :=
  { request := .line 0#23 .demand (some ⟨0#8, 0⟩), window := 0, phase := phase, waiter := true }

/-- The access that waits on the demand fill. -/
def waitingRead : Access :=
  { direction := .read, offset := 0#26, size := .four, window := 0, remote := 0#28, attrs := cached, limit := 0x1000,
    wait := .entryDone }

/-- The access of a write that waits for its entry's removal. -/
def waitingWrite : Access :=
  { waitingRead with direction := .write 7#32, attrs := Attrs.clear, wait := .entryRemoved }

/-- Entry 0 OUTSTANDING and IN_FLIGHT for line 0, its way FILLING, its waiter pending. -/
def filling : State :=
  { wired cached with
    dir := State.reset.dir.put 0#8 fillingSet
    reads := State.reset.reads.withEntry 0 { ReadEntry.reset with work := some (demand .inFlight), timer := .running 512 }
    bus := { State.reset.bus with access := some waitingRead } }

/-- A write entry of block 0 in a given state. -/
def writeOf (st : WriteState) : WriteEntry :=
  { block := 0#23, bytes := Vector.replicate 32 (some 1#8), posted := true, closed := false, window := 0, state := st,
    mark := false }

/-- A queue of one SENT entry under 0. -/
def sentQueue : WriteQueue :=
  { WriteQueue.reset with entries := [writeOf (.sent 0#8 false)], nws := 1#8, lastAssigned := some 0#8,
                          timer := .running 512 }

/-- A SENT entry, line 0 VALID. -/
def sent : State := { withLine with wq := sentQueue }

/-- A barrier SENT under issue number 0. -/
def barrier : State :=
  { wired cached with sync := { SyncUnit.reset with state := .sent, timer := .running 512 } }

/-- A JOIN taken, its timer running. -/
def joining : State :=
  { State.reset with link := { LinkController.reset 5#4 with state := .joining, joinTimer := .running 512 } }

/-- A record of a refused read. -/
def record : ErrorRecord := ⟨.readRefused 0 0#28, 1#8⟩

/-! ## Single steps -/

/-- The CRC check value (R177). -/
theorem test_crc_check : Frames.crc ("123456789".toList.map fun c => BitVec.ofNat 8 c.toNat) = 0x29B1#16 := by decide +kernel

/-- A hit gives the line's bytes and counts (R6, R133). -/
theorem test_read_hit : (after (.apertureRead ⟨4#26, 15#4⟩) withLine).bus.lastEnd = some (.read 0x5A5A5A5A#32 false) ∧
    (after (.apertureRead ⟨4#26, 15#4⟩) withLine).counters.hits = 1#16 := by decide +kernel

/-- A miss takes entry 0, claims the way at the back, and its READ_LINE is taken at once (R28, R9, R102); the prefetch of the
next line takes entry 1 (R31). -/
theorem test_read_miss : (after (.apertureRead ⟨8#26, 1#4⟩) (wired cached)).link.tx = .sending (.readLine 0 0#2 0#23) ∧
    (after (.apertureRead ⟨8#26, 1#4⟩) (wired cached)).reads.sendList = [1] ∧
    ((after (.apertureRead ⟨8#26, 1#4⟩) (wired cached)).dir.get 0#8).ways[3] = .filling 0#15 0 ∧
    ((after (.apertureRead ⟨8#26, 1#4⟩) (wired cached)).dir.get 1#8).order = [3, 0, 1, 2] := by decide +kernel

/-- A misaligned read ends with all ones, bus error and its record (R128, R131). -/
theorem test_read_misaligned : (after (.apertureRead ⟨1#26, 3#4⟩) (wired cached)).bus.lastEnd =
      some (.read 0xFFFF#32 true) ∧
    (after (.apertureRead ⟨1#26, 3#4⟩) (wired cached)).records.list = [⟨.misaligned 1#26, 1#8⟩] := by decide +kernel

/-- A posted write is appended, updates the VALID way, ends, and its WRITE is taken under NWS (R52, R15, R139, R56). -/
theorem test_write_posted : (after (.apertureWrite ⟨2#26, 1#4⟩ 0x77#32) withLine).bus.lastEnd = some (.write false) ∧
    (after (.apertureWrite ⟨2#26, 1#4⟩ 0x77#32) withLine).wq.nws = 1#8 ∧
    ((after (.apertureWrite ⟨2#26, 1#4⟩ 0x77#32) withLine).dir.get 0#8).ways[0] =
      .valid 0#15 (line5A.set 2 0x77#8) := by decide +kernel

/-- A write through a READ_ONLY window is refused (R130). -/
theorem test_write_read_only :
    (after (.apertureWrite ⟨0#26, 1#4⟩ 0#32) (wired { cached with readOnly := true })).records.list =
      [⟨.readOnlyWrite 0 0#26 0#28, 1#8⟩] := by decide +kernel

/-- The waiter's bytes arrive and the way becomes VALID (R34, R36). -/
theorem test_line_data : (after (.lineData 0 0#2 .ok line5A) filling).bus.lastEnd =
      some (.read 0x5A5A5A5A#32 false) ∧
    ((after (.lineData 0 0#2 .ok line5A) filling).dir.get 0#8).ways[0] = .valid 0#15 line5A := by decide +kernel

/-- A refused fill ends the read with all ones, bus error and a record, and releases the way (R37). -/
theorem test_line_data_refused : (after (.lineData 0 0#2 .prot line5A) filling).bus.lastEnd =
      some (.read 0xFFFFFFFF#32 true) ∧
    (after (.lineData 0 0#2 .prot line5A) filling).records.list = [⟨.readRefused 0 0#28, 1#8⟩] ∧
    ((after (.lineData 0 0#2 .prot line5A) filling).dir.get 0#8) =
      { CacheSet.cleared with order := [1, 2, 3, 0] } := by decide +kernel

/-- A refused write makes its record and invalidates the line; the total is as expected (R59, R60). -/
theorem test_write_ack_refused : (after (.writeAck 0#8 .noMemory 1#8) sent).wq.entries = [] ∧
    (after (.writeAck 0#8 .noMemory 1#8) sent).wq.rt = 1#8 ∧
    (after (.writeAck 0#8 .noMemory 1#8) sent).records.list = [⟨.writeRefused 0 0#28, 1#8⟩] ∧
    ((after (.writeAck 0#8 .noMemory 1#8) sent).dir.get 0#8).ways[0] = .invalid := by decide +kernel

/-- A total that has grown by three more than the ack says makes a record that counts three (R60). -/
theorem test_write_ack_total : (after (.writeAck 0#8 .ok 3#8) sent).records.list = [⟨.writeRefusedTotal, 3#8⟩] := by
  decide +kernel

/-- A NOTICE drops the line it names (R72), a gap starts a sweep (R74). -/
theorem test_notice : (after (.notice 0#8 0#23) withLine).counters.noticesApplied = 1#16 ∧
    (after (.notice 4#8 0#23) withLine).sweep = .running 0#8 ∧
    (after (.notice 4#8 0#23) withLine).notices.expected = 5#8 := by decide +kernel

/-- A gapped TICK sets the expected number itself (R75). -/
theorem test_tick_gap : (after (.tick 9#8) withLine).notices.expected = 9#8 ∧
    (after (.tick 9#8) withLine).records.list = [⟨.noticeGap 0#8 9#8, 1#8⟩] := by decide +kernel

/-- A WELCOME brings the link UP (R95). -/
theorem test_welcome : (after (.welcome 7#8) joining).link.state = .up ∧
    (after (.welcome 7#8) joining).notices.expected = 7#8 ∧
    (after (.welcome 7#8) joining).irq.flags.link = true := by decide +kernel

theorem test_sync_ack : (after (.syncAck 0#2) barrier).sync.state = .done ∧
    (after (.syncAck 1#2) barrier).counters.staleFrames = 1#16 := by decide +kernel

theorem test_word_data_stale : (after (.wordData 0 0#2 .ok #v[1#8, 2#8, 3#8, 4#8]) filling).counters.staleFrames = 1#16 := by
  decide +kernel

/-- The last expiry of the write timer takes the link down with the queue's count (R64, R97, R99). -/
theorem test_write_timeout :
    (after .writeTimerExpiry { sent with settings := { sent.settings with retryLimit := 0#3 } }).records.list =
      [⟨.linkFailed .writeTimeout 1#4, 1#8⟩] := by decide +kernel

theorem test_write_replay : (after .writeTimerExpiry sent).wq.replayCount = 1#3 ∧
    (after .writeTimerExpiry sent).link.tx = .sending (.write 0#8 0#23 0xFFFFFFFF#32 (Vector.replicate 32 1#8)) := by
  decide +kernel

theorem test_response_resend : (after (.responseTimerExpiry 0) filling).link.tx = .sending (.readLine 0 1#2 0#23) ∧
    (after (.responseTimerExpiry 0) filling).counters.readResends = 1#16 := by decide +kernel

theorem test_sync_resend : (after .syncTimerExpiry barrier).link.tx = .sending (.sync 1#2 none) := by decide +kernel

theorem test_join_resend : (after .joinTimerExpiry joining).link.tx = .sending (.join 5#4 3#8) := by decide +kernel

theorem test_quiet : (after .quietTimerExpiry sent).link.state = .failed ∧
    (after .quietTimerExpiry sent).link.lastCause = some .quiet := by decide +kernel

theorem test_restart : (after .restart sent).records.list = [⟨.linkFailed .storeRestart 1#4, 1#8⟩] := by decide +kernel

theorem test_corrupt : (after (.corruptFrame [0x27#8, 0#8, 0#8]) sent).counters.corruptFrames = 1#16 := by decide +kernel

theorem test_frame_while_down :
    (after (.frameWhileDown (Frames.inBytes (.welcome 3#8))) State.reset).link = State.reset.link := by decide +kernel

theorem test_transmission_end :
    (after .transmissionEnd { wired cached with link := { upLink with tx := .sending (.sync 0#2 none) } }).link.tx = .free := by
  decide +kernel

/-- The last sweep step (R84). -/
theorem test_sweep_ends : (after .sweepStep { withLine with sweep := .running 255#8 }).sweep.position = 256 ∧
    (after .sweepStep { withLine with sweep := .running 255#8 }).irq.flags.sweep = true := by decide +kernel

/-- A step clears its set (R83). -/
theorem test_sweep_step : ((after .sweepStep { withLine with sweep := .running 0#8 }).dir.get 0#8) = CacheSet.cleared := by
  decide +kernel

theorem test_join : (after .join { State.reset with link := LinkController.reset 5#4 }).link.tx = .sending (.join 5#4 3#8) ∧
    (after .join State.reset).cmd.status = .noIdentity := by decide +kernel

theorem test_stop : (after .stop sent).link.state = .down ∧ (after .stop sent).records.list = [] ∧
    (after .stop sent).sweep = .running 0#8 := by decide +kernel

theorem test_soft_reset : (after .softReset sent).link.boardNumber = 5#4 ∧ (after .softReset sent).link.state = .down ∧
    (after .softReset sent).windows[0] = window cached := by decide +kernel

theorem test_sweep : (after .sweep withLine).sweep = .running 0#8 ∧ (after .sweep withLine).cmd.status = .done := by
  decide +kernel

theorem test_sync : (after .sync sent).link.tx = .sending (.sync 0#2 (some 0#8)) ∧
    (after .sync State.reset).cmd.status = .wrongState := by decide +kernel

theorem test_pop : (after .popRecord { sent with records := ⟨[record], 2#8⟩ }).records = ⟨[], 2#8⟩ ∧
    (after .popRecord sent).cmd.status = .empty := by decide +kernel

theorem test_invalidate : ((after .invalidateLine withLine).dir.get 0#8).ways[0] = .invalid := by decide +kernel

/-- Size code 13 is not allowed (R116). -/
theorem test_enable_bad :
    (after .enableWindow { withLine with windows := withLine.windows.set 0 { Window.reset with sizeCode := 13#4 } }).cmd.status =
      .badArgument := by decide +kernel

theorem test_disable : ((after .disableWindow withLine).windows[0]).enabled = false := by decide +kernel

theorem test_clear_counters :
    (after .clearCounters { withLine with counters := { Counters.zero with hits := 9#16 } }).counters = Counters.zero := by
  decide +kernel

theorem test_clear_overflow : (after .clearOverflow { sent with records := ⟨[record], 2#8⟩ }).records = ⟨[record], 0#8⟩ := by
  decide +kernel

theorem test_unknown : (after (.unknownCommand 0#16) withLine).cmd.status = .badArgument := by decide +kernel

/-- The INDEX port takes the index and auto-increment, and 0 follows 127 (R167, R168). -/
theorem test_index : (after .dataRead (after (.indexWrite (.write32 0x1FF#32)) withLine)).bus.index = 0#7 ∧
    (after .dataRead (after (.indexWrite (.write8 0x80#8)) withLine)).bus.lastEnd = some (.read 0x5E1A#32 false) := by decide +kernel

/-- A 32-bit read of the INDEX port is an 8-bit one: auto-increment in bit 7, the other bytes 0, and no index moves (R167). -/
theorem test_index_read :
    (after (.indexWrite .read32) (after (.indexWrite (.write8 0xC2#8)) withLine)).bus.lastEnd = some (.read 0xC2#32 false) ∧
    (after (.indexWrite .read32) (after (.indexWrite (.write8 0xC2#8)) withLine)).bus.index = 0x42#7 := by decide +kernel

theorem test_wrong_width : (after (.dataWrongWidth .read8) withLine).bus.lastEnd = some (.read 0xFF#32 false) := by
  decide +kernel

theorem test_register_write : (after (.registerWrite 0x0240#16) (after (.indexWrite (.write16 0xFF08#16)) withLine)).settings =
    { withLine.settings with t := 0x40#7, retryLimit := 2#3 } := by decide +kernel

/-- A field write to an enabled entry is ignored; to a disabled one it keeps bits 15..12 of the low half (R114). -/
theorem test_window_field :
    ((after (.windowFieldWrite .localLow 0xFFFF#16) withLine).windows[0]).localBase = 0 ∧
    ((after (.windowFieldWrite .localLow 0xFFFF#16) State.reset).windows[0]).localBase = 0xF000 := by decide +kernel

theorem test_flag_clear :
    (after (.interruptFlagClear 2#16) { withLine with irq := ⟨⟨true, true, false, true⟩, FlagSet.clear⟩ }).irq.flags =
      ⟨true, false, false, true⟩ := by decide +kernel

theorem test_enable_write :
    (after (.interruptEnableWrite 1#16) { withLine with irq := ⟨⟨true, true, false, true⟩, FlagSet.clear⟩ }).interruptOutput =
      true := by decide +kernel

theorem test_reset_input : (after (.resetInput 9#4) sent).link.boardNumber = 9#4 ∧ (after (.resetInput 9#4) sent).wq.entries = [] ∧
    (after .resetDeassertion (after (.resetInput 9#4) sent)).pins = ⟨false, 9#4⟩ := by decide +kernel

/-- The three resume rows, each from its wait. -/
theorem test_resumes :
    (after .readResumesFreeEntry
      { withLine with bus := { withLine.bus with access := some { waitingRead with wait := .freeEntry } } }).counters.hits = 0#16 ∧
    (after .orderedReadDispatch
      { withLine with bus := { withLine.bus with access := some { waitingRead with wait := .queueEmpty } } }).counters.hits = 1#16 ∧
    (after .writeResumesQueueSpace
      { withLine with bus := { withLine.bus with access := some { waitingWrite with wait := .queueSpace } } }).wq.entries.length =
        1 := by decide +kernel

/-! ## States that obey the laws -/

theorem reset_get (i : SetIndex) : State.reset.dir.get i = CacheSet.cleared := by
  simp [State.reset, State.resetWith, Directory.get]

theorem put_get (c : CacheSet) (i : SetIndex) :
    (State.reset.dir.put 0#8 c).get i = if i = 0#8 then c else CacheSet.cleared := by
  rw [Directory.get_put, reset_get]

/-- What a set's ways must be for a directory with only that set in use to obey the uniqueness law. -/
theorem unique_of {s : State} {c : CacheSet} (h : s.dir = State.reset.dir.put 0#8 c)
    (hc : ∀ v w : Fin 4, (c.ways[v]).tag? = (c.ways[w]).tag? → (c.ways[v]).tag? ≠ none → v = w) : s.UniqueLaw := by
  intro i v w t hv hw
  rw [h, put_get] at hv hw
  by_cases hi : i = 0#8
  · rw [if_pos hi] at hv hw
    exact hc v w (hv.trans hw.symm) (by rw [hv]; simp)
  · rw [if_neg hi] at hv
    exfalso
    revert hv
    revert v
    intro v
    fin_cases v <;> simp [CacheSet.cleared, Way.tag?]

theorem reset_unique : State.reset.UniqueLaw :=
  unique_of (c := CacheSet.cleared) (by rw [← reset_get 0#8, Directory.put_get]) (by decide)

theorem withLine_unique : withLine.UniqueLaw := unique_of (c := validSet) rfl (by decide)

theorem filling_unique : filling.UniqueLaw := unique_of (c := fillingSet) rfl (by decide)

theorem noFilling_of {s : State} {c : CacheSet} (h : s.dir = State.reset.dir.put 0#8 c)
    (hc : ∀ w : Fin 4, (c.ways[w]).isFilling = false) : s.NoFilling := by
  intro i w
  rw [h, put_get]
  split
  · exact hc w
  · fin_cases w <;> rfl

/-- A directory with no FILLING way and a read table with no target obey the law of the fill reference. -/
theorem fill_of {s : State} (h : s.NoFilling)
    (ht : ∀ tag : Fin 4, ∀ w, (s.reads.entries[tag]).work = some w → w.target? = none) : s.FillLaw := by
  constructor
  · intro i w t ref hw
    have := h i w
    rw [hw] at this
    cases this
  · intro tag work line p x hw hr
    have := ht tag work hw
    rw [ReadWork.target?, hr] at this
    cases this

theorem withLine_noFilling : withLine.NoFilling := noFilling_of (c := validSet) rfl (by decide)

theorem withLine_fill : withLine.FillLaw :=
  fill_of withLine_noFilling (by intro tag; fin_cases tag <;> (intro w h; cases h))

theorem withLine_sweep : withLine.SweepLaw := by
  intro p h
  cases h

/-- The transmitter's law of a state that offers nothing. -/
theorem transmitter_of {s : State} (h : (s.link.joinPending || !s.reads.sendList.isEmpty || (writeOffer s.wq.entries).isSome ||
    s.sync.ready) = false) : s.TransmitterLaw := by
  intro _ ho
  simp only [Bool.or_eq_false_iff, Bool.not_eq_false', List.isEmpty_iff] at h
  obtain ⟨⟨⟨h1, h2⟩, h3⟩, h4⟩ := h
  rcases ho with ho | ho | ho | ho
  · rw [h1] at ho; cases ho
  · exact ho h2
  · rw [h3] at ho; cases ho
  · rw [h4] at ho; cases ho

theorem filling_fill : filling.FillLaw := by
  constructor
  · intro i w t ref h
    have h' : ((State.reset.dir.put 0#8 fillingSet).get i).ways[w] = .filling t ref := h
    rw [put_get] at h'
    by_cases hi : i = 0#8
    · subst hi
      rw [if_pos rfl] at h'
      fin_cases w <;> simp [fillingSet] at h'
      obtain ⟨_, rfl⟩ := h'
      exact ⟨demand .inFlight, rfl, rfl⟩
    · rw [if_neg hi] at h'
      fin_cases w <;> simp [CacheSet.cleared] at h'
  · intro tag work line p x hw hr
    fin_cases tag
    · have h0 : demand .inFlight = work := Option.some.inj hw
      subst h0
      simp only [demand, Request.line.injEq, Option.some.injEq] at hr
      obtain ⟨rfl, _, rfl⟩ := hr
      refine ⟨rfl, ?_⟩
      show ((State.reset.dir.put 0#8 fillingSet).get 0#8).ways[(0 : Fin 4)] = _
      rw [put_get]
      decide
    all_goals cases hw

/-- A read waits for its fill, a write is SENT, and a TICK is the next command. -/
def busy : State := { filling with wq := sentQueue, pending := [.tick 0#8] }

theorem busy_order : busy.OrderLaw := by
  intro i
  show ((State.reset.dir.put 0#8 fillingSet).get i).OrderLaw
  rw [put_get]
  split
  · exact ⟨List.Perm.refl _, by decide⟩
  · exact CacheSet.orderLaw_cleared

theorem busy_queue : busy.QueueLaw := ⟨by decide, by decide, trivial⟩

theorem busy_entries : busy.EntryLaw := ⟨by decide, by decide, by decide, by decide⟩

/-- Entry 0 is enabled, with fields that pass the checks. -/
theorem busy_windows : busy.WindowLaw := by
  unfold State.WindowLaw
  decide +kernel

theorem busy_records : busy.RecordLaw := ⟨by decide, by intro r h; cases h⟩

theorem busy_link : busy.LinkLaw := fun h => absurd rfl h

theorem busy_send : busy.SendLaw := by
  refine ⟨by decide, fun t => ⟨fun h => (by cases h), fun ⟨w, h, hp⟩ => ?_⟩⟩
  fin_cases t
  · have h0 : demand .inFlight = w := Option.some.inj h
    subst h0
    cases hp
  all_goals cases h

theorem busy_timers : busy.TimerLaw := by
  refine ⟨fun t => ?_, by decide, by decide, by decide, by decide, by decide⟩
  fin_cases t
  · exact ⟨fun _ => ⟨demand .inFlight, rfl, rfl⟩, fun _ => rfl⟩
  all_goals exact ⟨fun h => (by cases h), fun ⟨_, h, _⟩ => (by cases h)⟩

theorem busy_bus : busy.BusLaw := by
  show waitingRead.direction = .read ∧ busy.waiters = 1 ∧ busy.nonPosted = 0
  decide +kernel

theorem busy_waiters : busy.WaiterLaw := by
  refine ⟨fun t w h => ?_, by decide +kernel⟩
  fin_cases t
  · have h0 : demand .inFlight = w := Option.some.inj h
    subst h0
    exact ⟨fun _ => ⟨waitingRead, rfl, by decide⟩, fun _ => rfl, fun _ => rfl⟩
  all_goals cases h

/-- A state that is not reset's obeys all the laws together. -/
theorem busy_laws : busy.Laws where
  order := busy_order
  unique := filling_unique
  fill := filling_fill
  sweep := fun _ h => by cases h
  queue := busy_queue
  entries := busy_entries
  windows := busy_windows
  link := busy_link
  records := busy_records
  send := busy_send
  timers := busy_timers
  bus := busy_bus
  waiters := busy_waiters
  transmitter := transmitter_of (by decide +kernel)
  reset := fun h => by cases h

/-- The step of the busy state. -/
theorem busy_steps : ∃ t, step busy = .next t := ⟨_, rfl⟩

/-! ## What meets each statement's hypotheses -/

/-- The state with the reset input asserted. -/
def asserted : State := after (.resetInput 9#4) sent

/-- The state with an index selected. -/
def indexed (i : BitVec 7) : State := { withLine with bus := { withLine.bus with index := i } }

theorem canCycle_of {s : State} (h : (s.bus.access.isNone && !s.pins.resetAsserted) = true) : s.CanCycle := by
  simp only [Bool.and_eq_true, Option.isNone_iff_eq_none, Bool.not_eq_true'] at h
  exact h

theorem witness_EveryCommandCompletes : (∀ straps, Instr.tick 0#8 ≠ .resetInput straps) ∧ Instr.tick 0#8 ≠ .resetDeassertion :=
  ⟨fun _ h => (by cases h), by decide⟩

theorem witness_NoCycleIsTakenOnAHeldBusAndNoFrameUnderReset : isBusCycle .join = true ∧ busy.bus.access.isSome = true ∧
    asserted.pins.resetAsserted = true := by decide +kernel

theorem witness_DeassertionLatchesStraps : asserted.pins.resetAsserted = true ∧ sent.pins.resetAsserted = false := by
  decide +kernel

/-- Eight records, each at the count's bound, and a step. -/
theorem witness_RecordLawKept :
    { busy with records := ⟨List.replicate 8 ⟨.unmapped 0#26, 255#8⟩, 0#8⟩ }.RecordLaw ∧
      ∃ t, step { busy with records := ⟨List.replicate 8 ⟨.unmapped 0#26, 255#8⟩, 0#8⟩ } = .next t :=
  ⟨⟨by decide, by decide⟩, _, rfl⟩

theorem witness_OrderLawKept : busy.OrderLaw ∧ ∃ t, step busy = .next t := ⟨busy_order, busy_steps⟩

theorem witness_QueueLawKept : busy.QueueLaw ∧ busy.LinkLaw ∧ busy.EntryLaw ∧ ∃ t, step busy = .next t :=
  ⟨busy_queue, busy_link, busy_entries, busy_steps⟩

theorem witness_DirectoryLawsKept_LinkLawKept_EveryLawKept : busy.Laws ∧ ∃ t, step busy = .next t := ⟨busy_laws, busy_steps⟩

/-- Every body has CRC bytes that make it intact, among them one whose ignored bits are all set; the empty frame fails the
CRC; a kind below and one above the inbound kinds, and a WELCOME one byte too long, are in no row. -/
theorem witness_InboundFramesReadBackAndOthersAreRefused :
    (∀ body : List Byte, ∃ c d : Byte, Frames.crc (body ++ [c, d]) = 0#16) ∧ Frames.crc [] ≠ 0#16 ∧
    (∀ row ∈ [((0x1F#8 : Byte).toNat, 4), ((0x28#8 : Byte).toNat, 4), ((0x20#8 : Byte).toNat, 5)],
      row ∉ [(0x20, 4), (0x21, 37), (0x22, 9), (0x23, 6), (0x24, 4), (0x25, 7), (0x26, 4), (0x27, 3)]) ∧
    (3 : Fin 4).val = (0xFF#8 : Byte).toNat % 4 ∧ (3#2 : Issue).toNat = (0xFF#8 : Byte).toNat / 4 % 4 ∧
    (0xFF#8 : Byte).toNat % 4 = 3 :=
  ⟨fun body => ⟨_, _, Frames.crc_withCrc body⟩, by decide, by decide, by decide, by decide, by decide⟩

/-- The first and the last byte of a value, at the lowest offset and at the highest. -/
theorem witness_LanesFollowOffsetsAndAddressPartsTheirBits : (0 < sizeBytes .one ∧ 31 + sizeBytes .one ≤ 32 ∧ 31 + 0 < 32) ∧
    (3 < sizeBytes .four ∧ 28 + sizeBytes .four ≤ 32 ∧ 28 + 3 < 32) ∧ 31 < 32 := by decide

theorem witness_IndexCyclesWriteAndRead_DataPortCyclesEnd_ClearCommandsAndUnknownCodes : withLine.CanCycle ∧
    (¬ (1 ≤ (0#16 : Half).toNat ∧ (0#16 : Half).toNat ≤ 0x0B)) ∧
    ¬ (1 ≤ (0x0C#16 : Half).toNat ∧ (0x0C#16 : Half).toNat ≤ 0x0B) :=
  ⟨canCycle_of (by decide +kernel), by decide, by decide⟩

/-- The laws hold, and the unimplemented indices have a first and a last one in each clause. -/
theorem witness_StatusRegistersShowTheirFields : busy.RecordLaw ∧ busy.QueueLaw ∧
    (0x0E#7 : BitVec 7).toNat ∈ [0x0E, 0x57] ∧ (0x57#7 : BitVec 7).toNat ∈ [0x0E, 0x57] ∧
    0x60 ≤ (0x60#7 : BitVec 7).toNat ∧ 0x60 ≤ (0x7F#7 : BitVec 7).toNat :=
  ⟨busy_records, busy_queue, by decide, by decide, by decide, by decide⟩

/-- Every index is one some state selects, and 0EH is in no clause but the last. -/
theorem witness_RegisterWriteChangesItsItem_RegisterWriteReachesTheRowOfItsIndex :
    (∀ i : BitVec 7, (indexed i).CanCycle ∧ (indexed i).bus.index = i) ∧
    (0x0E#7 : BitVec 7).toNat ∉ [0x03, 0x05, 0x06, 0x07, 0x08, 0x09, 0x0A, 0x0B, 0x0C, 0x0D, 0x1B, 0x24, 0x2C, 0x2D, 0x58,
      0x5A, 0x5B, 0x5C, 0x5D, 0x5E, 0x5F] :=
  ⟨fun _ => ⟨⟨rfl, rfl⟩, rfl⟩, by decide⟩

theorem witness_WindowFieldWriteNeedsDisabledEntry : withLine.CanCycle ∧ (withLine.windows[withLine.sel.window]).enabled = true ∧
    State.reset.CanCycle ∧ (State.reset.windows[State.reset.sel.window]).enabled = false :=
  ⟨canCycle_of (by decide +kernel), by decide +kernel, canCycle_of (by decide +kernel), by decide +kernel⟩

theorem witness_InterruptRegistersAndOutput : withLine.CanCycle := canCycle_of (by decide +kernel)

/-- A link in a given state, with a board number and a transmitter. -/
def linked (state : LinkState) (board : BitVec 4) (tx : Transmitter) : State :=
  { State.reset with link := { LinkController.reset board with state := state, tx := tx } }

theorem witness_JoinCommandOutcomes : ∀ state : LinkState, ∀ board : BitVec 4, ∀ tx : Transmitter,
    (linked state board tx).CanCycle ∧ (linked state board tx).link.state = state ∧
      (linked state board tx).link.boardNumber = board ∧ (linked state board tx).link.tx = tx :=
  fun _ _ _ => ⟨⟨rfl, rfl⟩, rfl, rfl, rfl⟩

theorem reset_noFilling : State.reset.NoFilling := fun i w => by
  rw [reset_get]
  fin_cases w <;> rfl

theorem linked_laws (state : LinkState) (board : BitVec 4) (tx : Transmitter) :
    (linked state board tx).FillLaw ∧ (linked state board tx).SweepLaw ∧ (linked state board tx).LinkLaw := by
  refine ⟨fill_of reset_noFilling ?_, fun _ h => (by cases h), fun _ => ⟨?_, rfl, reset_noFilling, fun h => (by cases h),
    fun h => (by cases h), rfl⟩⟩
  · intro tag w h
    fin_cases tag <;> cases h
  · intro tag
    fin_cases tag <;> rfl

/-- STOP in each state of the link. -/
theorem witness_StopTakesTheLinkDown (state : LinkState) : (linked state 5#4 .free).CanCycle ∧ (linked state 5#4 .free).FillLaw ∧
    (linked state 5#4 .free).SweepLaw ∧ (linked state 5#4 .free).LinkLaw ∧ (linked state 5#4 .free).link.state = state :=
  ⟨⟨rfl, rfl⟩, (linked_laws _ _ _).1, (linked_laws _ _ _).2.1, (linked_laws _ _ _).2.2, rfl⟩

theorem witness_SoftResetKeepsConfiguration : withLine.CanCycle := canCycle_of (by decide +kernel)

theorem witness_SweepCommandStartsOrIsAbsorbed : withLine.CanCycle ∧ withLine.sweep.isRunning = false ∧
    { withLine with sweep := .running 255#8 }.CanCycle ∧ { withLine with sweep := .running 255#8 }.sweep.isRunning = true :=
  ⟨canCycle_of (by decide +kernel), by decide +kernel, canCycle_of (by decide +kernel), by decide +kernel⟩

/-- SYNC with the link not UP, with a barrier under way, with an empty queue, and with each state of the youngest entry. -/
theorem witness_SyncCommandOutcomes : (State.reset.CanCycle ∧ State.reset.link.state ≠ .up) ∧
    (barrier.CanCycle ∧ barrier.link.state = .up ∧ barrier.sync.state = .sent) ∧
    (withLine.CanCycle ∧ withLine.link.state = .up ∧ withLine.sync.state ≠ .pending ∧ withLine.sync.state ≠ .sent ∧
      withLine.wq.entries = []) ∧
    (sent.CanCycle ∧ sent.wq.entries = [] ++ [writeOf (.sent 0#8 false)]) ∧
    { sent with wq := { sentQueue with entries := [writeOf (.sent 0#8 false), writeOf .queued] } }.wq.entries =
      [writeOf (.sent 0#8 false)] ++ [writeOf .queued] :=
  ⟨⟨⟨rfl, rfl⟩, by decide⟩, ⟨⟨rfl, rfl⟩, rfl, rfl⟩, ⟨⟨rfl, rfl⟩, rfl, by decide, by decide, rfl⟩, ⟨⟨rfl, rfl⟩, rfl⟩, rfl⟩

theorem witness_PopRecordRemovesTheHead : withLine.CanCycle ∧ withLine.records.list = [] ∧
    { withLine with records := ⟨[record], 0#8⟩ }.CanCycle ∧ { withLine with records := ⟨[record], 0#8⟩ }.records.list = [record] :=
  ⟨⟨rfl, rfl⟩, rfl, ⟨rfl, rfl⟩, rfl⟩

/-- Line 0 in no way, in a VALID way and in a FILLING way. -/
theorem misses_reset : State.reset.dir.Misses 0#23 := by
  intro w
  rw [reset_get]
  fin_cases w <;> simp [CacheSet.cleared, Way.tag?]

theorem withLine_way : (withLine.dir.get (setOf 0#23)).ways[(0 : Fin 4)] = .valid (Machine.tagOf 0#23) line5A := by
  show ((State.reset.dir.put 0#8 validSet).get 0#8).ways[(0 : Fin 4)] = _
  rw [put_get]
  decide +kernel

theorem filling_way : (filling.dir.get (setOf 0#23)).ways[(0 : Fin 4)] = .filling (Machine.tagOf 0#23) 0 := by
  show ((State.reset.dir.put 0#8 fillingSet).get 0#8).ways[(0 : Fin 4)] = _
  rw [put_get]
  decide +kernel

/-- The filling state without its waiter's access. -/
def fillingIdle : State := { filling with bus := State.reset.bus }

theorem witness_InvalidateLineActsOnItsWay :
    (State.reset.CanCycle ∧ State.reset.UniqueLaw ∧ (0#23 : LineAddr) = State.reset.cmd.remoteArg.extractLsb' 5 23 ∧
      State.reset.dir.Misses 0#23) ∧
    (withLine.CanCycle ∧ withLine.UniqueLaw ∧ (0#23 : LineAddr) = withLine.cmd.remoteArg.extractLsb' 5 23 ∧
      (withLine.dir.get (setOf 0#23)).ways[(0 : Fin 4)] = .valid (Machine.tagOf 0#23) line5A) ∧
    (fillingIdle.CanCycle ∧ fillingIdle.UniqueLaw ∧ (0#23 : LineAddr) = fillingIdle.cmd.remoteArg.extractLsb' 5 23 ∧
      (fillingIdle.dir.get (setOf 0#23)).ways[(0 : Fin 4)] = .filling (Machine.tagOf 0#23) 0) :=
  ⟨⟨⟨rfl, rfl⟩, reset_unique, rfl, misses_reset⟩, ⟨⟨rfl, rfl⟩, withLine_unique, rfl, withLine_way⟩,
    ⟨rfl, rfl⟩, filling_unique, rfl, filling_way⟩

/-- A window of size code 12 at the bases' last place for it, and one of size code 13. -/
theorem witness_WindowCommandsSetTheEnabledFlag :
    (({ Window.reset with localPage := 0x3000#14, sizeCode := 12#4, remotePage := 0xF000#16 } : Window).usable = true) ∧
    (({ Window.reset with sizeCode := 13#4 } : Window).usable = false) ∧ withLine.CanCycle ∧
    (withLine.windows[withLine.cmd.windowArg]).usable = true := by
  exact ⟨by decide +kernel, by decide +kernel, ⟨rfl, rfl⟩, by decide +kernel⟩

/-- A record that merges, one that is appended as the eighth, and one that finds eight. -/
theorem witness_RecordIsMergedAppendedOrDropped :
    (⟨.readRefused 0 0#28, 255#8⟩ : ErrorRecord).body.kind = record.body.kind ∧
    (List.replicate 7 record).length < 8 ∧ 8 ≤ (List.replicate 8 record).length ∧
    ¬ ((RecordBody.unmapped 0#26).kind = record.body.kind) := by decide

/-- The transmitter while it sends, and FREE with each kind of frame offered first. -/
theorem witness_TransmitterTakesByRank : sent.pins.resetAsserted = false ∧ sent.link.tx = .free ∧
    (linked .up 5#4 (.sending (.sync 0#2 none))).link.tx = .sending (.sync 0#2 none) ∧
    { joining with link := { joining.link with joinPending := true } }.link.joinPending = true ∧
    (({ fillingIdle with reads := { fillingIdle.reads with sendList := [0] } }.reads.entries[(0 : Fin 4)]).work =
      some (demand .inFlight)) ∧
    (writeOf (.sent 0#8 true)).isReplay = true ∧ (writeOf (.sent 0#8 false)).isSent = true ∧
    (writeOf .queued).isReplay = false ∧ ({ SyncUnit.reset with state := .pending } : SyncUnit).mark ≠ .waiting := by
  refine ⟨rfl, rfl, rfl, rfl, rfl, rfl, rfl, rfl, by decide⟩

theorem sent_offers_nothing : ¬ sent.Offered := transmitter_of (s := sent) (by decide +kernel) rfl

theorem witness_WelcomeBringsTheLinkUp_ReceiverTurnsFramesAway : joining.pins.resetAsserted = false ∧
    joining.link.state = .joining ∧ sent.pins.resetAsserted = false ∧ sent.link.state = .up ∧
    State.reset.pins.resetAsserted = false ∧ State.reset.link.state = .down ∧
    (linked .failed 5#4 .free).link.state = .failed ∧ Frames.parse [] = none ∧
    Frames.parse (Frames.inBytes .restart) = some .restart := by
  refine ⟨rfl, rfl, rfl, rfl, rfl, rfl, rfl, rfl, by decide +kernel⟩

/-- Stale by each of the five conditions: FREE, AWAITING, another issue number, another kind, DUPLICATE. -/
theorem witness_StaleResponsesChangeNoEntry : filling.pins.resetAsserted = false ∧ filling.link.state = .up ∧
    (filling.reads.entries[(3 : Fin 4)]).work = none ∧ (demand .awaiting).phase = .awaiting ∧
    (filling.reads.entries[(0 : Fin 4)]).issue ≠ 3#2 ∧ ∃ addr p x, (demand .inFlight).request = .line addr p x :=
  ⟨rfl, rfl, rfl, rfl, by decide, _, _, _, rfl⟩

theorem witness_LineDataCompletesItsEntry_RefusedResponseEndsItsEntry : filling.pins.resetAsserted = false ∧
    filling.link.state = .up ∧ filling.FillLaw ∧ (filling.reads.entries[(0 : Fin 4)]).work = some (demand .inFlight) ∧
    (demand .inFlight).phase = .inFlight ∧ (filling.reads.entries[(0 : Fin 4)]).issue = 0#2 ∧
    (demand .inFlight).request = .line 0#23 .demand (some ⟨0#8, 0⟩) ∧
    (∀ a, filling.bus.access = some a → a.wait ≠ .freeEntry) ∧ filling.bus.access.isSome = true := by
  refine ⟨rfl, rfl, filling_fill, rfl, rfl, rfl, rfl, fun a h => ?_, rfl⟩
  have h0 : waitingRead = a := Option.some.inj h
  subst h0
  decide

/-- The work of a word read of the last four bytes of line 0. -/
def wordWork : ReadWork := { request := .word 28#28 .four, window := 0, phase := .inFlight, waiter := true }

/-- Entry 0 IN_FLIGHT for a word. -/
def wording : State :=
  { wired Attrs.clear with
    reads := State.reset.reads.withEntry 0 { ReadEntry.reset with work := some wordWork, timer := .running 512 }
    bus := { State.reset.bus with access := some { waitingRead with offset := 28#26, remote := 28#28, attrs := Attrs.clear } } }

/-- A read entry that is FREE, one with a LINE and one with a WORD; a queue position that holds an entry and one that holds
none; an empty record queue and one with a head. -/
theorem witness_InspectionShowsTheSelection : busy.OrderLaw ∧ 2 * 15 + 1 < 32 ∧
    (State.reset.reads.entries[State.reset.sel.readEntry]).work = none ∧
    (busy.reads.entries[busy.sel.readEntry]).work = some (demand .inFlight) ∧
    (demand .inFlight).request = .line 0#23 .demand (some ⟨0#8, 0⟩) ∧
    (wording.reads.entries[wording.sel.readEntry]).work = some wordWork ∧ wordWork.request = .word 28#28 .four ∧
    busy.wq.entries[busy.sel.queuePos.val]? = some (writeOf (.sent 0#8 false)) ∧
    State.reset.wq.entries[State.reset.sel.queuePos.val]? = none ∧
    busy.records.list = [] ∧ { busy with records := ⟨[record], 0#8⟩ }.records.list = [record] :=
  ⟨busy_order, by decide, rfl, rfl, rfl, rfl, rfl, rfl, rfl, rfl, rfl⟩

theorem witness_WordDataCompletesItsEntry : wording.pins.resetAsserted = false ∧ wording.link.state = .up ∧
    (wording.reads.entries[(0 : Fin 4)]).work = some wordWork ∧ wordWork.phase = .inFlight ∧
    (wording.reads.entries[(0 : Fin 4)]).issue = 0#2 ∧ wordWork.request = .word 28#28 .four ∧
    (∀ a, wording.bus.access = some a → a.wait ≠ .freeEntry) ∧ (31 / 4 = (byteOffset 28#28).toNat / 4) := by
  refine ⟨rfl, rfl, rfl, rfl, rfl, rfl, fun a h => ?_, by decide⟩
  have h0 := Option.some.inj h
  subst h0
  decide

/-- A full queue of a SENT entry under 0 and seven QUEUED ones, a write waiting on space. -/
def full : State :=
  { wired Attrs.clear with
    wq := { sentQueue with entries := [writeOf (.sent 0#8 false)] ++ List.replicate 7 (writeOf .queued) }
    bus := { State.reset.bus with access := some { waitingWrite with wait := .queueSpace } } }

/-- One SENT entry, a read waiting on the queue's emptying. -/
def draining : State :=
  { sent with bus := { State.reset.bus with access := some { waitingRead with wait := .queueEmpty } } }

/-- The three ways an access may stand when the ack comes: it waits on neither, on queue space, on the queue's emptying. -/
theorem witness_WriteAckRetiresEntries :
    (busy.pins.resetAsserted = false ∧ busy.link.state = .up ∧ busy.QueueLaw ∧
      busy.wq.entries = [] ++ writeOf (.sent 0#8 false) :: []) ∧
    (full.pins.resetAsserted = false ∧ full.link.state = .up ∧ full.QueueLaw ∧
      full.wq.entries = [] ++ writeOf (.sent 0#8 false) :: List.replicate 7 (writeOf .queued) ∧
      full.bus.access.map Access.wait = some .queueSpace) ∧
    (draining.pins.resetAsserted = false ∧ draining.link.state = .up ∧ draining.QueueLaw ∧
      draining.wq.entries = [] ++ writeOf (.sent 0#8 false) :: [] ∧
      draining.bus.access.map Access.wait = some .queueEmpty) ∧
    (writeOf (.sent 0#8 false)).state = .sent 0#8 (writeOf (.sent 0#8 false)).isReplay := by
  refine ⟨⟨rfl, rfl, busy_queue, rfl⟩, ⟨rfl, rfl, ⟨by decide, by decide, (?_ : ∀ f ∈ List.replicate 6 (writeOf .queued), f.isQueued = true)⟩, rfl, rfl⟩,
    ⟨rfl, rfl, ⟨by decide, by decide, trivial⟩, rfl, rfl⟩, rfl⟩
  decide

theorem witness_StaleWriteAckOnlySettlesTheTotal : busy.pins.resetAsserted = false ∧ busy.link.state = .up ∧ busy.QueueLaw ∧
    busy.TransmitterLaw ∧ ∀ e ∈ busy.wq.entries, e.seq? ≠ some 1#8 :=
  ⟨rfl, rfl, busy_queue, busy_laws.transmitter, by decide⟩

theorem witness_SyncAckCompletesTheBarrier : barrier.pins.resetAsserted = false ∧ barrier.link.state = .up ∧
    barrier.sync.state = .sent ∧ barrier.sync.issue = 0#2 ∧ ¬ (barrier.sync.state = .sent ∧ barrier.sync.issue = 1#2) :=
  ⟨rfl, rfl, rfl, rfl, by decide⟩

theorem witness_MatchingNoticeDropsItsLine :
    ((wired cached).pins.resetAsserted = false ∧ (wired cached).link.state = .up ∧ (wired cached).UniqueLaw ∧
      (wired cached).dir.Misses 0#23) ∧
    (withLine.pins.resetAsserted = false ∧ withLine.link.state = .up ∧ withLine.UniqueLaw ∧
      (withLine.dir.get (setOf 0#23)).ways[(0 : Fin 4)] = .valid (Machine.tagOf 0#23) line5A) ∧
    (filling.pins.resetAsserted = false ∧ filling.link.state = .up ∧ filling.UniqueLaw ∧
      (filling.dir.get (setOf 0#23)).ways[(0 : Fin 4)] = .filling (Machine.tagOf 0#23) 0) :=
  ⟨⟨rfl, rfl, reset_unique, misses_reset⟩, ⟨rfl, rfl, withLine_unique, withLine_way⟩, rfl, rfl, filling_unique, filling_way⟩

theorem witness_MatchingTickChangesNothing_GapRecordsAndStartsASweep : withLine.pins.resetAsserted = false ∧
    withLine.link.state = .up ∧ (255#8 : Seq) ≠ withLine.notices.expected := ⟨rfl, rfl, by decide⟩

/-- A retry limit of 0 makes the first expiry the last. -/
def impatient (s : State) : State := { s with settings := { s.settings with retryLimit := 0#3 } }

theorem witness_FailureEventsTearDown : busy.pins.resetAsserted = false ∧ busy.link.state = .up ∧ busy.FillLaw ∧ busy.SweepLaw ∧
    busy.link.quietTimer.isRunning = true ∧
    ((impatient busy).FillLaw ∧ (impatient busy).SweepLaw ∧ (impatient busy).wq.timer.isRunning = true ∧
      (impatient busy).settings.retryLimit.toNat ≤ (impatient busy).wq.replayCount.toNat) ∧
    ((impatient barrier).FillLaw ∧ (impatient barrier).SweepLaw ∧ (impatient barrier).sync.timer.isRunning = true ∧
      (impatient barrier).settings.retryLimit.toNat ≤ (impatient barrier).sync.retries.toNat) ∧
    (((impatient busy).reads.entries[(0 : Fin 4)]).work.isSome = true ∧
      ((impatient busy).reads.entries[(0 : Fin 4)]).timer.isRunning = true ∧
      (impatient busy).settings.retryLimit.toNat ≤ ((impatient busy).reads.entries[(0 : Fin 4)]).retries.toNat) := by
  refine ⟨rfl, rfl, filling_fill, fun _ h => (by cases h), rfl, ⟨filling_fill, fun _ h => (by cases h), rfl, by decide⟩,
    ⟨fill_of reset_noFilling ?_, fun _ h => (by cases h), rfl, by decide⟩, rfl, rfl, by decide⟩
  intro tag w h
  fin_cases tag <;> cases h

theorem witness_ExpiryWithRetriesLeftResends : (busy.reads.entries[(0 : Fin 4)]).work = some (demand .inFlight) ∧
    (busy.reads.entries[(0 : Fin 4)]).timer.isRunning = true ∧
    (busy.reads.entries[(0 : Fin 4)]).retries.toNat < busy.settings.retryLimit.toNat ∧
    busy.wq.timer.isRunning = true ∧ busy.wq.replayCount.toNat < busy.settings.retryLimit.toNat ∧
    barrier.sync.timer.isRunning = true ∧ barrier.sync.retries.toNat < barrier.settings.retryLimit.toNat ∧
    joining.link.joinTimer.isRunning = true ∧ joining.link.joinRetries.toNat < joining.settings.retryLimit.toNat := by
  decide +kernel

theorem witness_JoinTimeoutEndsTheJoin : (impatient joining).link.joinTimer.isRunning = true ∧
    (impatient joining).settings.retryLimit.toNat ≤ (impatient joining).link.joinRetries.toNat := by decide +kernel

theorem witness_IdleStepsAndEventsThatCannotArise : State.reset.pending = [] ∧ State.reset.link.tx = .free ∧
    State.reset.sweep.isRunning = false ∧ (State.reset.reads.entries[(3 : Fin 4)]).timer.isRunning = false ∧
    State.reset.wq.timer.isRunning = false ∧ State.reset.sync.timer.isRunning = false ∧
    State.reset.link.joinTimer.isRunning = false ∧ State.reset.link.quietTimer.isRunning = false := by decide +kernel

theorem witness_SweepStepClearsItsSet : { withLine with sweep := .running 254#8 }.sweep = .running 254#8 ∧
    (254#8 : SetIndex) ≠ 255#8 ∧ { withLine with sweep := .running 255#8 }.sweep = .running 255#8 :=
  ⟨rfl, by decide, rfl⟩

theorem wired_window (attrs : Attrs) : (wired attrs).windows[(0 : Fin 8)] = window attrs := rfl

theorem window_localBase (attrs : Attrs) : (window attrs).localBase = 0 := by
  simp [window, Window.localBase, Window.reset]

theorem window_size (attrs : Attrs) : (window attrs).size = 0x1000 := by
  simp [window, Window.size, Window.reset]

/-- Window 0 is passed at its last aligned word. -/
theorem wired_passes (attrs : Attrs) (isWrite : Bool) (h : isWrite = true → attrs.readOnly = false) :
    (wired attrs).Passes 0xFFC#26 .four isWrite 0 where
  aligned := by decide
  up := rfl
  enabled := rfl
  above := by
    rw [wired_window, window_localBase]
    exact Nat.zero_le _
  below := by
    rw [wired_window, window_localBase, window_size]
    decide
  lowest := fun j hj => absurd hj (by revert j; decide)
  writable := h

/-- A refusal by each of the checks: no run, misaligned, the link down, unmapped just past window 0, and READ_ONLY. -/
theorem witness_RefusedCyclesEndAtPresentation : State.reset.CanCycle ∧ (wired cached).CanCycle ∧
    State.reset.TurnsAway ⟨4#26, 5#4⟩ false (.misaligned 4#26) ∧
    State.reset.TurnsAway ⟨4#26, 0#4⟩ false (.misaligned 4#26) ∧
    State.reset.TurnsAway ⟨4#26, 10#4⟩ false (.misaligned 5#26) ∧
    ((10#4).getLsbD 1 = true ∧ ∀ j : Nat, j < 1 → (10#4).getLsbD j = false) ∧
    State.reset.TurnsAway ⟨3#26, 3#4⟩ true (.misaligned 3#26) ∧
    State.reset.TurnsAway ⟨4#26, 15#4⟩ false (.linkNotUp 4#26) ∧
    (wired { cached with readOnly := true }).TurnsAway ⟨0xFFC#26, 15#4⟩ true (.readOnlyWrite 0 0xFFC#26 0xFFC#28) := by
  refine ⟨⟨rfl, rfl⟩, ⟨rfl, rfl⟩, Or.inl ⟨by decide, by decide⟩, Or.inl ⟨by decide, by decide⟩,
    Or.inl ⟨by decide, by decide⟩, ⟨rfl, by decide⟩, Or.inr ⟨.two, by decide, Or.inl ⟨by decide, by decide⟩⟩,
    Or.inr ⟨.four, by decide, Or.inr (Or.inl ⟨by decide, by decide, by decide⟩)⟩,
    Or.inr ⟨.four, by decide, Or.inr (Or.inr (Or.inr ⟨rfl, 0, ?_, rfl, by decide +kernel⟩))⟩⟩
  exact wired_passes _ false (by decide)

theorem witness_UnmappedCycle : (wired cached).TurnsAway ⟨0x1000#26, 15#4⟩ false (.unmapped 0x1000#26) := by
  refine Or.inr ⟨.four, by decide, Or.inr (Or.inr (Or.inl ⟨by decide, rfl, fun i => ?_, by decide⟩))⟩
  revert i
  decide +kernel

/-- The access of a read of the last word of window 0. -/
def lastWord (attrs : Attrs) : Access := (wired attrs).accessOf 0xFFC#26 .four .read 0 .entryDone

/-- A prefetch of the line of the last word, under way. -/
def lastWork : ReadWork :=
  { request := .line (lineOf (lastWord cached).remote) .prefetch (some ⟨0x7F#8, 0⟩), window := 0, phase := .inFlight,
    waiter := false }

/-- The state in which the line of the last word is in one way of its set, and entry 0 is under way for it. -/
def withLast (x : Way) : State :=
  { wired cached with
    reads := State.reset.reads.withEntry 0 { ReadEntry.reset with work := some lastWork, timer := .running 512 }
    dir := State.reset.dir.put 0x7F#8 { CacheSet.cleared with ways := #v[x, .invalid, .invalid, .invalid] } }

theorem withLast_unique (x : Way) : (withLast x).UniqueLaw := by
  intro i v w t hv hw
  have e : (withLast x).dir.get i =
      if i = 0x7F#8 then { CacheSet.cleared with ways := #v[x, .invalid, .invalid, .invalid] } else CacheSet.cleared := by
    show (State.reset.dir.put _ _).get i = _
    rw [Directory.get_put, reset_get]
  rw [e] at hv hw
  by_cases hi : i = 0x7F#8
  · rw [if_pos hi] at hv hw
    fin_cases v <;> fin_cases w <;> simp [Way.tag?] at hv hw ⊢
  · rw [if_neg hi] at hv
    fin_cases v <;> simp [CacheSet.cleared, Way.tag?] at hv

theorem withLast_way (x : Way) : ((withLast x).dir.get (setOf (lineOf (lastWord cached).remote))).ways[(0 : Fin 4)] = x := by
  have e : setOf (lineOf (lastWord cached).remote) = 0x7F#8 := by decide +kernel
  rw [e]
  show ((State.reset.dir.put _ _).get _).ways[(0 : Fin 4)] = x
  rw [Directory.get_put_self]
  rfl

/-- A hit and a join at the last word of a window. -/
theorem witness_CacheableReadHitsOrJoins (x : Way) : (withLast x).CanCycle ∧ (withLast x).UniqueLaw ∧
    (withLast x).TransmitterLaw ∧ presented ⟨0xFFC#26, 15#4⟩ = ⟨0xFFC#26, some .four⟩ ∧
    (withLast x).Passes 0xFFC#26 .four false 0 ∧
    lastWord cached = (withLast x).accessOf 0xFFC#26 .four .read 0 .entryDone ∧ (lastWord cached).attrs.cacheable = true ∧
    ((lastWord cached).attrs.ordered = true → (withLast x).wq.entries = []) ∧ (withLast x).sweep.isRunning = false ∧
    ((withLast x).dir.get (setOf (lineOf (lastWord cached).remote))).ways[(0 : Fin 4)] = x ∧
    ((withLast x).reads.entries[(0 : Fin 4)]).work = some lastWork ∧
    lastWork.request = .line (lineOf (lastWord cached).remote) .prefetch (some ⟨0x7F#8, 0⟩) := by
  have h := wired_passes cached false (by decide)
  exact ⟨⟨rfl, rfl⟩, withLast_unique x, transmitter_of rfl, rfl,
    ⟨h.aligned, h.up, h.enabled, h.above, h.below, h.lowest, h.writable⟩, rfl, rfl, fun _ => rfl, rfl, withLast_way x, rfl, rfl⟩

/-- The wired state with the first entries of the read table in use. -/
def taken (attrs : Attrs) (n : Nat) : State :=
  { wired attrs with reads :=
    { entries := Vec.mapIdx (fun k e => if k < n then { e with work := some { wordWork with phase := .inFlight } } else e)
        State.reset.reads.entries
      sendList := [] } }

theorem taken_passes (attrs : Attrs) (n : Nat) : (taken attrs n).Passes 0xFFC#26 .four false 0 := by
  have h := wired_passes attrs false (fun e => by cases e)
  exact ⟨h.aligned, h.up, h.enabled, h.above, h.below, h.lowest, h.writable⟩

theorem taken_lowest (attrs : Attrs) : (taken attrs 0).reads.LowestFree 0 ∧ (taken attrs 3).reads.LowestFree 3 := by
  refine ⟨⟨rfl, fun u h => absurd h (by revert u; decide)⟩, rfl, fun u h => ?_⟩
  match u, h with
  | 0, _ => exact fun e => (by cases e)
  | 1, _ => exact fun e => (by cases e)
  | 2, _ => exact fun e => (by cases e)
  | 3, h => exact absurd h (by decide)

theorem taken_full (attrs : Attrs) (tag : Fin 4) : ((taken attrs 4).reads.entries[tag]).work ≠ none := by
  fin_cases tag <;> exact fun e => (by cases e)

theorem taken_misses (attrs : Attrs) (n : Nat) (a : LineAddr) : (taken attrs n).dir.Misses a := by
  intro w
  show ((State.reset.dir.get _).ways[w]).tag? ≠ _
  rw [reset_get]
  fin_cases w <;> simp [CacheSet.cleared, Way.tag?]

/-- A miss with every entry FREE, with the last one FREE, and with none; a next line below the limit, and one at it. -/
theorem witness_CacheableReadMissTakesAFill (n : Nat) : (taken cached n).CanCycle ∧ (taken cached n).TransmitterLaw ∧
    presented ⟨0xFFC#26, 15#4⟩ = ⟨0xFFC#26, some .four⟩ ∧ (taken cached n).Passes 0xFFC#26 .four false 0 ∧
    lastWord cached = (taken cached n).accessOf 0xFFC#26 .four .read 0 .entryDone ∧ (lastWord cached).attrs.cacheable = true ∧
    ((lastWord cached).attrs.ordered = true → (taken cached n).wq.entries = []) ∧
    (taken cached n).dir.Misses (lineOf (lastWord cached).remote) ∧
    ((taken cached 0).reads.LowestFree 0 ∧ (taken cached 3).reads.LowestFree 3) ∧
    (∀ tag : Fin 4, ((taken cached 4).reads.entries[tag]).work ≠ none) ∧
    (¬ ((lineOf (lastWord cached).remote).toNat + 1) * 32 < (lastWord cached).limit) ∧
    (((lineOf waitingRead.remote).toNat + 1) * 32 < waitingRead.limit ∧ waitingRead.attrs.prefetch = true ∧
      (taken cached 0).dir.Misses (lineOf waitingRead.remote + 1#23) ∧ (taken cached 0).sweep.isRunning = false ∧
      (taken cached 0).dir.hold = false ∧ ((taken cached 0).reads.entries[(1 : Fin 4)]).work = none) :=
  ⟨⟨rfl, rfl⟩, transmitter_of rfl, rfl, taken_passes _ _, rfl, rfl, fun _ => rfl, taken_misses _ _ _, taken_lowest _,
    taken_full _, by decide +kernel, by decide +kernel, rfl, taken_misses _ _ _, rfl, rfl, rfl⟩

/-- The state of an ORDERED window with a SENT entry. -/
def orderedWait : State := { taken { Attrs.clear with ordered := true } 0 with wq := sentQueue }

theorem witness_WordReadsAndOrderedWaits :
    (orderedWait.CanCycle ∧ orderedWait.TransmitterLaw ∧ orderedWait.Passes 0xFFC#26 .four false 0 ∧
      (lastWord { Attrs.clear with ordered := true }).attrs.ordered = true ∧ orderedWait.wq.entries ≠ []) ∧
    ∀ n : Nat, (taken Attrs.clear n).CanCycle ∧ (taken Attrs.clear n).TransmitterLaw ∧
      (taken Attrs.clear n).Passes 0xFFC#26 .four false 0 ∧ (lastWord Attrs.clear).attrs.cacheable = false ∧
      ((lastWord Attrs.clear).attrs.ordered = true → (taken Attrs.clear n).wq.entries = []) ∧
      ((taken Attrs.clear 0).reads.LowestFree 0 ∧ (taken Attrs.clear 3).reads.LowestFree 3) ∧
      ∀ tag : Fin 4, ((taken Attrs.clear 4).reads.entries[tag]).work ≠ none := by
  have h := taken_passes { Attrs.clear with ordered := true } 0
  exact ⟨⟨⟨rfl, rfl⟩, transmitter_of (by decide +kernel), ⟨h.aligned, h.up, h.enabled, h.above, h.below, h.lowest, h.writable⟩,
    rfl, by decide⟩, fun n => ⟨⟨rfl, rfl⟩, transmitter_of rfl, taken_passes _ _, rfl, fun _ => rfl, taken_lowest _, taken_full _⟩⟩

/-- A write that merges, one that is appended to a queue of seven, and one that finds eight. -/
theorem witness_WriteIsMergedAppendedOrWaits : (wired cached).CanCycle ∧ presented ⟨0xFFC#26, 15#4⟩ = ⟨0xFFC#26, some .four⟩ ∧
    (wired cached).Passes 0xFFC#26 .four true 0 ∧
    { writeOf .queued with block := lineOf (lastWord cached).remote }.Takes (lastWord cached) ∧
    ¬ (writeOf (.sent 0#8 false)).Takes (lastWord cached) ∧ (List.replicate 7 (writeOf .queued)).length < 8 ∧
    8 ≤ (List.replicate 8 (writeOf .queued)).length :=
  ⟨⟨rfl, rfl⟩, rfl, wired_passes _ _ (fun _ => rfl), ⟨rfl, rfl, rfl, rfl, rfl, rfl⟩, fun h => (by cases h.2.1), by decide, by decide⟩

theorem witness_DirectorySeesTakenWrites : withLine.UniqueLaw ∧ withLine.sweep.isRunning = false ∧
    (withLine.dir.get (setOf 0#23)).ways[(0 : Fin 4)] = .valid (Machine.tagOf 0#23) line5A ∧
    filling.UniqueLaw ∧ (filling.dir.get (setOf 0#23)).ways[(0 : Fin 4)] = .filling (Machine.tagOf 0#23) 0 ∧
    State.reset.UniqueLaw ∧ State.reset.dir.Misses 0#23 :=
  ⟨withLine_unique, rfl, withLine_way, filling_unique, filling_way, reset_unique, misses_reset⟩

/-- The line state with an access in a given wait. -/
def waitingFor (a : Access) (w : Wait) : State :=
  { withLine with bus := { withLine.bus with access := some { a with wait := w } } }

/-- Each wait, and a state without it. -/
theorem witness_WaitsEndAndTheAccessGoesOn :
    (withLine.TransmitterLaw ∧ ∀ a, withLine.bus.access = some a → a.wait ≠ .freeEntry) ∧
    ((waitingFor waitingWrite .queueSpace).bus.access = some { waitingWrite with wait := .queueSpace } ∧
      waitingWrite.direction = .write 7#32 ∧ (waitingFor waitingWrite .queueSpace).wq.entries.length < 8 ∧
      (waitingFor waitingWrite .queueSpace).wq.entries.getLast? = none) ∧
    ((waitingFor waitingRead .freeEntry).bus.access = some { waitingRead with wait := .freeEntry } ∧
      (waitingFor waitingRead .freeEntry).reads.LowestFree 0 ∧ waitingRead.attrs.cacheable = true ∧
      (waitingFor waitingRead .freeEntry).UniqueLaw ∧ (waitingFor waitingRead .freeEntry).TransmitterLaw ∧
      ((waitingFor waitingRead .freeEntry).dir.get (setOf 0#23)).ways[(0 : Fin 4)] = .valid (Machine.tagOf 0#23) line5A) ∧
    ((waitingFor waitingRead .queueEmpty).bus.access = some { waitingRead with wait := .queueEmpty } ∧
      (waitingFor waitingRead .queueEmpty).wq.entries = []) :=
  ⟨⟨transmitter_of rfl, fun a h => (by cases h)⟩, ⟨rfl, rfl, by decide, rfl⟩,
    ⟨rfl, ⟨rfl, fun u h => absurd h (by revert u; decide)⟩, rfl, withLine_unique, transmitter_of rfl, withLine_way⟩, rfl, rfl⟩

end Sys2Proof.Tests
end

section
/-! SUPPORT. The response meets its entry: what the receiver hands over, the overlay byte by byte, when a response matches, and
what completion and refusal leave, each through the operations' own names. -/

namespace Sys2Proof.Machine

/-! ## The overlay (R35) -/

theorem overlayQueue_append (request : Request) (entries : List WriteEntry) (e : WriteEntry) (buffer : Line) :
    overlayQueue request (entries ++ [e]) buffer =
      if e.block = request.block then overlay (overlayQueue request entries buffer) (request.overlayBytes e.bytes)
      else overlayQueue request entries buffer := by
  simp [overlayQueue]

/-- The bytes laid over are those at the offsets that the response returns (R34, R35). -/
theorem Request.getElem_overlayBytes (request : Request) (bytes : MaskedLine) (k : Nat) (h : k < 32) :
    (request.overlayBytes bytes)[k] = if request.returns k then bytes[k] else none := by
  cases request with
  | line addr purpose target => simp [Request.overlayBytes, Request.returns]
  | word addr size => simp [Request.overlayBytes, Request.returns, inGroup]

/-- Settles O17, by induction on the queue from its youngest end: one more entry is laid over last, and is asked first. -/
theorem overlayTakesTheYoungestByte : Obligations.OverlayTakesTheYoungestByte := by
  intro request entries buffer k hk
  induction entries using List.reverseRecOn with
  | nil => rfl
  | append_singleton older e ih =>
    rw [overlayQueue_append, List.reverse_concat, List.findSome?_cons]
    by_cases hb : e.block = request.block
    · rw [if_pos hb, getElem_overlay, Request.getElem_overlayBytes, ih]
      cases request.returns k <;> cases e.bytes[k] <;> simp [hb]
    · simpa [hb] using ih

/-! ## Arrival of a response -/

theorem exec_lineData_up {s : State} (tag : Fin 4) (issue : Issue) (status : Status) (data : Line)
    (hr : s.pins.resetAsserted = false) (hu : s.link.state = .up) :
    exec (.lineData tag issue status data) s =
      .next (s.restartQuiet.takeResponse tag issue true status fun _ => data) :=
  congrArg Host.Outcome.next (State.receive_up (.lineData tag issue status data) hr hu)

theorem exec_wordData_up {s : State} (tag : Fin 4) (issue : Issue) (status : Status) (data : Vector Byte 4)
    (hr : s.pins.resetAsserted = false) (hu : s.link.state = .up) :
    exec (.wordData tag issue status data) s =
      .next (s.restartQuiet.takeResponse tag issue false status ((s.reads.entries[tag]).wordBuffer data)) :=
  congrArg Host.Outcome.next (State.receive_up (.wordData tag issue status data) hr hu)

/-- The five conditions of R33 under which a response is stale for an entry. -/
theorem ReadEntry.answeredBy_eq_none {e : ReadEntry} {issue : Issue} {isLine : Bool} {status : Status}
    (h : ∀ w, e.work = some w →
      w.phase = .awaiting ∨ e.issue ≠ issue ∨ w.request.isLine ≠ isLine ∨ status = .duplicate) :
    e.answeredBy issue isLine status = none := by
  unfold ReadEntry.answeredBy
  split
  · rename_i w hw
    refine if_neg fun ⟨hphase, hissue, hline, hstatus⟩ => ?_
    rcases h w hw with h | h | h | h
    · rw [hphase] at h
      cases h
    · exact h hissue
    · exact h hline
    · exact hstatus h
  · rfl

theorem ReadEntry.answeredBy_eq_some {e : ReadEntry} {issue : Issue} {isLine : Bool} {status : Status} {w : ReadWork}
    (hw : e.work = some w) (hphase : w.phase = .inFlight) (hissue : e.issue = issue) (hline : w.request.isLine = isLine)
    (hstatus : status ≠ .duplicate) : e.answeredBy issue isLine status = some w := by
  simp [ReadEntry.answeredBy, hw, hphase, hissue, hline, hstatus]

theorem State.takeResponse_stale {s : State} {tag : Fin 4} {issue : Issue} {isLine : Bool} {status : Status}
    (returned : ReadWork → Line) (h : (s.reads.entries[tag]).answeredBy issue isLine status = none) :
    s.takeResponse tag issue isLine status returned = s.bump .staleFrames := by
  simp only [State.takeResponse, h]

theorem State.takeResponse_ok {s : State} {tag : Fin 4} {issue : Issue} {isLine : Bool} {w : ReadWork}
    (returned : ReadWork → Line) (h : (s.reads.entries[tag]).answeredBy issue isLine .ok = some w) :
    s.takeResponse tag issue isLine .ok returned = (s.completeRead tag w (returned w)).transmit := by
  simp only [State.takeResponse, h, if_pos]

theorem State.takeResponse_refused {s : State} {tag : Fin 4} {issue : Issue} {isLine : Bool} {status : Status} {w : ReadWork}
    (returned : ReadWork → Line) (h : (s.reads.entries[tag]).answeredBy issue isLine status = some w)
    (hstatus : status ≠ .ok) :
    s.takeResponse tag issue isLine status returned = (s.refuseRead tag w).transmit := by
  simp only [State.takeResponse, h, if_neg hstatus]

/-! ## Stale responses (R33) -/

/-- A counter stops at 65535 (R161). -/
theorem countUp_toNat (c : BitVec 16) : (countUp c).toNat = min 65535 (c.toNat + 1) := by
  unfold countUp
  split
  · rename_i h
    subst h
    rfl
  · bv_omega

/-- Settles O39: each of the five conditions makes the response stale for its entry, and a stale response only counts. -/
theorem staleResponsesChangeNoEntry : Obligations.StaleResponsesChangeNoEntry := by
  refine ⟨countUp_toNat, fun tag issue status s hr hu => ⟨fun data hstale => ?_, fun data hstale => ?_⟩⟩
  · rw [exec_lineData_up tag issue status data hr hu, State.takeResponse_stale]
    · rfl
    · refine ReadEntry.answeredBy_eq_none fun w hw => ?_
      rcases hstale w hw with h | h | ⟨addr, size, h⟩ | h
      · exact .inl h
      · exact .inr (.inl h)
      · exact .inr (.inr (.inl (by simp [h, Request.isLine])))
      · exact .inr (.inr (.inr h))
  · rw [exec_wordData_up tag issue status data hr hu, State.takeResponse_stale]
    · rfl
    · refine ReadEntry.answeredBy_eq_none fun w hw => ?_
      rcases hstale w hw with h | h | ⟨addr, p, x, h⟩ | h
      · exact .inl h
      · exact .inr (.inl h)
      · exact .inr (.inr (.inl (by simp [h, Request.isLine])))
      · exact .inr (.inr (.inr h))

/-! ## The waiter's access (R34, R37) -/

/-- The bus interface after an entry has answered its waiter, if it has one and an access is pending (R34, R37). -/
def BusInterface.answered (waiter : Bool) (data : Access → BitVec 32) (busError : Bool) (b : BusInterface) : BusInterface :=
  match waiter, b.access with
  | true, some a => b.afterRead (data a) busError
  | _, _ => b

/-- An answer leaves the pending access as it was, or ends it. -/
theorem BusInterface.access_of_answered {waiter : Bool} {data : Access → BitVec 32} {busError : Bool} {b : BusInterface}
    {a : Access} (h : (b.answered waiter data busError).access = some a) : b.access = some a := by
  unfold BusInterface.answered at h
  split at h
  · cases h
  · exact h

theorem State.deliver_bus (waiter : Bool) (buffer : Line) (s : State) :
    (s.deliver waiter buffer).bus =
      s.bus.answered waiter (fun a => valueAt buffer (byteOffset a.remote) a.size) false := by
  unfold State.deliver BusInterface.answered
  cases waiter <;> cases s.bus.access <;> simp [BusInterface.afterRead]

/-! ## Completion (R34) -/

/-- What an install does to the directory depends on the directory alone. -/
theorem State.installFill_dir_congr {s t : State} (target : Option Target) (buffer : Line) (h : s.dir = t.dir) :
    (s.installFill target buffer).dir = (t.installFill target buffer).dir := by
  cases target <;> simp [State.installFill, h]

/-- An OK response with no read waiting on a free entry (R34): the entry is FREE with the overlaid buffer, which is installed
and delivered. -/
theorem State.completeRead_eq {s : State} (tag : Fin 4) (w : ReadWork) (returned : Line)
    (hwait : ∀ a, s.bus.access = some a → a.wait ≠ .freeEntry) :
    s.completeRead tag w returned =
      { s with
        reads := s.reads.withEntry tag
          { s.reads.entries[tag] with
            work := none, timer := .stopped, fill := overlayQueue w.request s.wq.entries returned }
        dir := (s.installFill w.target? (overlayQueue w.request s.wq.entries returned)).dir
        bus := s.bus.answered w.waiter
          (fun a => valueAt (overlayQueue w.request s.wq.entries returned) (byteOffset a.remote) a.size) false } := by
  unfold State.completeRead
  rw [State.resumeFreeEntry_idle]
  · apply State.ext <;> simp [ReadTable.withEntry, State.deliver_bus]
    exact State.installFill_dir_congr _ _ (by simp)
  · intro a ha
    simp only [State.freeUp_bus, State.deliver_bus, State.installFill_bus, State.setEntry_bus] at ha
    exact hwait a (BusInterface.access_of_answered ha)

/-- The directory after a line's fill has been installed into its target way, if it has one (R11). -/
def Directory.installed (d : Directory) (target : Option Target) (addr : LineAddr) (buffer : Line) : Directory :=
  match target with
  | some y => d.withSet y.set ((d.get y.set).withFront y.way (.valid (tagOf addr) buffer))
  | none => d

/-- Under the law of the fill reference the target way is FILLING with the entry's line (R10), so it is installed (R11). -/
theorem State.installFill_dir {s : State} {tag : Fin 4} {w : ReadWork} {addr : LineAddr} {p : Purpose} {x : Option Target}
    (fill : s.FillLaw) (hw : (s.reads.entries[tag]).work = some w) (hreq : w.request = .line addr p x) (buffer : Line) :
    (s.installFill w.target? buffer).dir = s.dir.installed x addr buffer := by
  have htarget : w.target? = x := by rw [ReadWork.target?, hreq]
  rw [htarget]
  cases x with
  | none => rfl
  | some y =>
    obtain ⟨-, hway⟩ := fill.2 tag w addr p y hw hreq
    simp only [State.installFill, State.onSet_dir, CacheSet.install, hway]
    rfl

/-- Settles O40: the response matches its entry, and completion installs the overlaid fill into the way the entry names. -/
theorem lineDataCompletesItsEntry : Obligations.LineDataCompletesItsEntry := by
  intro tag issue data s w addr p x hr hu fill hw hphase hissue hreq hwait
  have hmatch : (s.restartQuiet.reads.entries[tag]).answeredBy issue true .ok = some w :=
    ReadEntry.answeredBy_eq_some hw hphase hissue (by rw [hreq]; rfl) (by decide)
  rw [exec_lineData_up tag issue .ok data hr hu, State.takeResponse_ok _ hmatch,
    State.completeRead_eq (s := s.restartQuiet) tag w data hwait,
    State.installFill_dir (s := s.restartQuiet) fill hw hreq]
  rfl

/-- Settles O41: the completed buffer is `fillGroup`'s, and a WORD entry has no target way. -/
theorem wordDataCompletesItsEntry : Obligations.WordDataCompletesItsEntry := by
  intro tag issue data s w addr size hr hu hw hphase hissue hreq hwait
  have hmatch : (s.restartQuiet.reads.entries[tag]).answeredBy issue false .ok = some w :=
    ReadEntry.answeredBy_eq_some hw hphase hissue (by rw [hreq]; rfl) (by decide)
  have hbuffer : (s.reads.entries[tag]).wordBuffer data w =
      fillGroup (s.reads.entries[tag]).fill (byteOffset addr) data := by
    rw [ReadEntry.wordBuffer, hreq]
  have htarget : w.target? = none := by rw [ReadWork.target?, hreq]
  refine ⟨fillGroup (s.reads.entries[tag]).fill (byteOffset addr) data, fun k hk => ?_, ?_⟩
  · simp [inGroup]
  · rw [exec_wordData_up tag issue .ok data hr hu, State.takeResponse_ok _ hmatch,
      State.completeRead_eq (s := s.restartQuiet) tag w _ hwait, hbuffer, htarget]
    rfl

/-! ## Refusal (R37) -/

/-- The end of an entry and a record handed to the record queue touch different blocks. -/
theorem State.freeUp_handRecord (tag : Fin 4) (r : ErrorRecord) (s : State) :
    (s.handRecord r).freeUp tag = (s.freeUp tag).handRecord r := by
  unfold State.handRecord
  rw [State.freeUp_records]
  repeat' split
  all_goals rfl

/-- The directory after a fill has failed (R12). -/
def Directory.failed (d : Directory) (target : Option Target) : Directory :=
  match target with
  | some y => d.withSet y.set ((d.get y.set).withDropped y.way)
  | none => d

theorem State.failFill_eq (target : Option Target) (s : State) :
    s.failFill target = { s with dir := s.dir.failed target } := by
  cases target <;> rfl

/-- A refused entry before its record is handed on (R37): FREE, its fill failed, its waiter answered with all ones. -/
def State.withRefused (tag : Fin 4) (w : ReadWork) (s : State) : State :=
  { s with
    reads := s.reads.withEntry tag { s.reads.entries[tag] with work := none, timer := .stopped }
    dir := s.dir.failed w.target?
    bus := s.bus.answered w.waiter (fun a => onesOf a.size) s.bus.berrEn }

theorem State.refuseRead_eq {s : State} (tag : Fin 4) (w : ReadWork)
    (hwait : ∀ a, s.bus.access = some a → a.wait ≠ .freeEntry) (hwaiter : w.waiter = true → s.bus.access.isSome = true) :
    s.refuseRead tag w =
      if w.waiter then (s.withRefused tag w).handRecord ⟨.readRefused w.window w.request.recordAddr, 1#8⟩
      else s.withRefused tag w := by
  unfold State.refuseRead
  cases hw : w.waiter with
  | false =>
    rw [State.resumeFreeEntry_idle]
    · simp [State.withRefused, State.failFill_eq, BusInterface.answered, hw]
      rfl
    · simpa using hwait
  | true =>
    obtain ⟨a, ha⟩ := Option.isSome_iff_exists.mp (hwaiter hw)
    rw [State.resumeFreeEntry_idle]
    · simp [State.withRefused, State.failFill_eq, BusInterface.answered, hw, ha, State.freeUp_handRecord]
      rfl
    · simp [ha]

/-- Settles O42: LINE or WORD, the response matches its entry, and the refusal ends it before its record is handed on. -/
theorem refusedResponseEndsItsEntry : Obligations.RefusedResponseEndsItsEntry := by
  intro tag issue status s w hr hu hstatus hw hphase hissue hwait hwaiter c hc
  have hok : status ≠ .ok := by rcases hstatus with rfl | rfl <;> decide
  have hdup : status ≠ .duplicate := by rcases hstatus with rfl | rfl <;> decide
  have hmatch (isLine : Bool) (hline : w.request.isLine = isLine) :
      (s.restartQuiet.reads.entries[tag]).answeredBy issue isLine status = some w :=
    ReadEntry.answeredBy_eq_some hw hphase hissue hline hdup
  rcases hc with ⟨data, addr, p, x, hreq, rfl⟩ | ⟨data, addr, size, hreq, rfl⟩
  · rw [exec_lineData_up tag issue status data hr hu,
      State.takeResponse_refused _ (hmatch true (by rw [hreq]; rfl)) hok,
      State.refuseRead_eq (s := s.restartQuiet) tag w hwait hwaiter]
    simp only [hreq, State.withRefused, ReadWork.target?]
    cases x <;> rfl
  · rw [exec_wordData_up tag issue status data hr hu,
      State.takeResponse_refused _ (hmatch false (by rw [hreq]; rfl)) hok,
      State.refuseRead_eq (s := s.restartQuiet) tag w hwait hwaiter]
    simp only [hreq, State.withRefused, ReadWork.target?]
    rfl

end Sys2Proof.Machine
end

section
/-! SUPPORT. The events of the part itself: a timer's expiry by its retries, and the events that are none. -/

namespace Sys2Proof.Machine

/-! ## Expiries with retries left (R40, R62, R94, R151) -/

theorem State.expireResponse_of_retries {s : State} {tag : Fin 4} {w : ReadWork}
    (hw : (s.reads.entries[tag]).work = some w) (hrun : (s.reads.entries[tag]).timer.isRunning = true)
    (hleft : (s.reads.entries[tag]).retries.toNat < s.settings.retryLimit.toNat) :
    s.expireResponse tag = (s.resendRead tag w).transmit := by
  simp only [State.expireResponse, hw, if_pos hrun, if_pos hleft]

theorem State.expireWrite_of_retries {s : State} (hrun : s.wq.timer.isRunning = true)
    (hleft : s.wq.replayCount.toNat < s.settings.retryLimit.toNat) : s.expireWrite = s.replay.transmit := by
  rw [State.expireWrite, if_pos hrun, if_pos hleft]

theorem State.expireSync_of_retries {s : State} (hrun : s.sync.timer.isRunning = true)
    (hleft : s.sync.retries.toNat < s.settings.retryLimit.toNat) : s.expireSync = s.resendSync.transmit := by
  rw [State.expireSync, if_pos hrun, if_pos hleft]

theorem State.expireJoin_of_retries {s : State} (hrun : s.link.joinTimer.isRunning = true)
    (hleft : s.link.joinRetries.toNat < s.settings.retryLimit.toNat) : s.expireJoin = s.resendJoin.transmit := by
  rw [State.expireJoin, if_pos hrun, if_pos hleft]

/-- One more, modulo the width, as the statements write it. -/
theorem ofNat_toNat_succ {n : Nat} (v : BitVec n) : BitVec.ofNat n (v.toNat + 1) = v + 1 := by
  rw [BitVec.ofNat_add, BitVec.ofNat_toNat, BitVec.setWidth_eq]
  rfl

/-- Settles O50: with retries left each expiry is the resend of its block, and then the transmitter's choice. -/
theorem expiryWithRetriesLeftResends : Obligations.ExpiryWithRetriesLeftResends := by
  intro s
  refine ⟨fun tag w hw hrun hleft => ?_, fun hrun hleft => ?_, fun hrun hleft => ?_, fun hrun hleft => ?_⟩
  · simp only [ofNat_toNat_succ]
    exact congrArg Host.Outcome.next (State.expireResponse_of_retries hw hrun hleft)
  · simp only [ofNat_toNat_succ]
    exact congrArg Host.Outcome.next (State.expireWrite_of_retries hrun hleft)
  · simp only [ofNat_toNat_succ]
    exact congrArg Host.Outcome.next (State.expireSync_of_retries hrun hleft)
  · simp only [ofNat_toNat_succ]
    exact congrArg Host.Outcome.next (State.expireJoin_of_retries hrun hleft)

/-! ## Events that cannot arise (log 5) -/

theorem Sweep.eq_idle {w : Sweep} (h : w.isRunning = false) : ∃ finished, w = .idle finished := by
  cases w with
  | idle finished => exact ⟨finished, rfl⟩
  | running p => cases h

theorem State.endTransmission_free {s : State} (h : s.link.tx = .free) : s.endTransmission = s := by
  simp only [State.endTransmission, h]

theorem State.stepSweep_idle {s : State} (h : s.sweep.isRunning = false) : s.stepSweep = s := by
  obtain ⟨finished, h⟩ := Sweep.eq_idle h
  simp only [State.stepSweep, h]

theorem State.expireResponse_stopped {s : State} {tag : Fin 4} (h : (s.reads.entries[tag]).timer.isRunning = false) :
    s.expireResponse tag = s := by
  unfold State.expireResponse
  split
  · exact if_neg (by simp only [h, Bool.false_eq_true, not_false_eq_true])
  · rfl

theorem State.expireWrite_stopped {s : State} (h : s.wq.timer.isRunning = false) : s.expireWrite = s := by
  simp [State.expireWrite, h]

theorem State.expireSync_stopped {s : State} (h : s.sync.timer.isRunning = false) : s.expireSync = s := by
  simp [State.expireSync, h]

theorem State.expireJoin_stopped {s : State} (h : s.link.joinTimer.isRunning = false) : s.expireJoin = s := by
  simp [State.expireJoin, h]

theorem State.expireQuiet_stopped {s : State} (h : s.link.quietTimer.isRunning = false) : s.expireQuiet = s := by
  simp [State.expireQuiet, h]

theorem step_nil {s : State} (h : s.pending = []) : step s = .next s := by
  simp only [step, h]

/-- Settles O52: each event meets the guard of its own operation. -/
theorem idleStepsAndEventsThatCannotArise : Obligations.IdleStepsAndEventsThatCannotArise := by
  intro s
  exact ⟨step_nil,
    fun h => congrArg Host.Outcome.next (State.endTransmission_free h),
    fun h => congrArg Host.Outcome.next (State.stepSweep_idle h),
    fun _ h => congrArg Host.Outcome.next (State.expireResponse_stopped h),
    fun h => congrArg Host.Outcome.next (State.expireWrite_stopped h),
    fun h => congrArg Host.Outcome.next (State.expireSync_stopped h),
    fun h => congrArg Host.Outcome.next (State.expireJoin_stopped h),
    fun h => congrArg Host.Outcome.next (State.expireQuiet_stopped h)⟩

end Sys2Proof.Machine
end

section
/-! SUPPORT. The ends of waits: what a row that ends a wait goes on with, the path of a dispatched read by the outcome of its
lookup, and a waiting write appended. -/

namespace Sys2Proof.Machine

variable {s : State}

/-! ## What a wait's end goes on with (R28, R53, R132) -/

theorem State.resumeFreeEntry_waiting {a : Access} {tag : Fin 4} (ha : s.bus.access = some a) (hwait : a.wait = .freeEntry)
    (hfree : s.freeEntry = some tag) : s.resumeFreeEntry = s.dispatchRead false a := by
  simp [State.resumeFreeEntry, ha, hwait, hfree]

theorem State.resumeQueueEmpty_waiting {a : Access} (ha : s.bus.access = some a) (hwait : a.wait = .queueEmpty)
    (hempty : s.wq.entries = []) : s.resumeQueueEmpty = s.dispatchRead true a := by
  simp [State.resumeQueueEmpty, ha, hwait, hempty]

theorem State.resumeQueueSpace_waiting {a : Access} (ha : s.bus.access = some a) (hwait : a.wait = .queueSpace)
    (hspace : s.wq.entries.length < 8) : s.resumeQueueSpace = s.presentWrite a := by
  simp [State.resumeQueueSpace, ha, hwait, hspace]

/-! ## A waiting write (R52, R53) -/

/-- A write that the youngest entry does not take is appended while there is space (R52). -/
theorem WriteQueue.take_append {q : WriteQueue} {a : Access} (hspace : q.entries.length < 8)
    (hyoungest : ∀ y, q.entries.getLast? = some y → ¬ y.Takes a) :
    q.take a = some { q with entries := q.entries ++ [a.entry] } := by
  unfold WriteQueue.take
  split
  · rename_i y hy
    rw [if_neg (by rw [WriteEntry.accepts_iff]; exact hyoungest y hy), if_pos hspace]
  · rename_i hnone
    rw [List.getLast?_eq_none_iff.mp hnone]
    rfl

theorem Access.entry_eq_appended {a : Access} {data : BitVec 32} (h : a.direction = .write data) :
    a.entry = a.appended data := by
  simp [Access.entry, Access.appended, Access.bytes, Access.data, Access.isPosted, h]

/-- What the directory makes of a write depends on the directory and the sweep alone. -/
theorem State.directorySeesWrite_dir_congr {s t : State} (cacheable : Bool) (line : LineAddr) (bytes : MaskedLine)
    (hdir : s.dir = t.dir) (hsweep : s.sweep = t.sweep) :
    (s.directorySeesWrite cacheable line bytes).dir = (t.directorySeesWrite cacheable line bytes).dir := by
  unfold State.directorySeesWrite State.invalidateValid
  rw [hdir, hsweep]
  repeat' split
  all_goals simp [hdir]

/-- A write that is appended (R52, R139, R140): the directory sees it, and it ends if it is posted or waits for its entry. -/
theorem State.presentWrite_append {a : Access} {data : BitVec 32} (hdata : a.direction = .write data)
    (hspace : s.wq.entries.length < 8) (hyoungest : ∀ y, s.wq.entries.getLast? = some y → ¬ y.Takes a) :
    s.presentWrite a =
      (s.withAppended a data).directorySeesWrite a.attrs.cacheable (lineOf a.remote)
        (placeBytes (byteOffset a.remote) a.size data) := by
  have hbytes : a.bytes = placeBytes (byteOffset a.remote) a.size data := by simp [Access.bytes, Access.data, hdata]
  unfold State.presentWrite
  rw [WriteQueue.take_append hspace hyoungest, Access.entry_eq_appended hdata, hbytes]
  dsimp only [Access.isPosted]
  by_cases hposted : (a.attrs.posted && !a.attrs.ordered) = true <;>
    apply State.ext <;> simp [State.withAppended, hposted, BusInterface.afterWrite]
  all_goals exact State.directorySeesWrite_dir_congr _ _ _ rfl rfl

/-! ## A dispatched read (R133 to R136) -/

/-- One counter incremented if the lookup counts (R28, R162). -/
theorem State.bumpIf_hits (counted : Bool) (s : State) :
    s.bumpIf counted .hits =
      { s with counters := { s.counters with hits := if counted then countUp s.counters.hits else s.counters.hits } } := by
  cases counted <;> rfl

theorem State.bumpIf_misses (counted : Bool) (s : State) :
    s.bumpIf counted .misses =
      { s with counters := { s.counters with
          misses := if counted then countUp s.counters.misses else s.counters.misses } } := by
  cases counted <;> rfl

/-- Without CACHEABLE a read takes a WORD entry, when one is FREE (R136). -/
theorem State.dispatchRead_word {a : Access} {tag : Fin 4} (counted : Bool) (hcache : a.attrs.cacheable = false)
    (hfree : s.freeEntry = some tag) : s.dispatchRead counted a = s.withWordTaken tag a := by
  rw [State.dispatchRead, hcache, if_neg Bool.false_ne_true, State.readWord, hfree]
  rfl

/-- A miss takes a demand fill, when an entry is FREE, and then a prefetch is considered (R135). -/
theorem State.dispatchRead_miss {a : Access} {tag : Fin 4} (counted : Bool) (hcache : a.attrs.cacheable = true)
    (hfree : s.freeEntry = some tag) (hmiss : s.sweep.isRunning = true ∨ s.dir.Misses (lineOf a.remote)) :
    s.dispatchRead counted a =
      (((s.bumpIf counted .misses).withLineTaken tag (lineOf a.remote) .demand a.window true).considerPrefetch a).setAccess
        { a with wait := .entryDone } := by
  have hoffer : s.offerVictim (lineOf a.remote) = (s.bumpIf counted .misses).offerVictim (lineOf a.remote) := by
    simp [State.offerVictim]
  have hfree' : (s.bumpIf counted .misses).freeEntry = some tag := by
    rw [← hfree]
    simp [State.freeEntry]
  rw [State.dispatchRead, if_pos hcache, State.readLookup, State.lookup_of_miss hmiss]
  simp only [State.readMiss, hfree', hoffer, State.takeLine_offered]

/-- A hit ends the read with the line's bytes and moves the way to the front (R133). -/
theorem State.dispatchRead_hit {a : Access} {w : Fin 4} {data : Line} (counted : Bool) (hcache : a.attrs.cacheable = true)
    (hsweep : s.sweep.isRunning = false) (unique : s.UniqueLaw)
    (hway : (s.dir.get (setOf (lineOf a.remote))).ways[w] = .valid (Machine.tagOf (lineOf a.remote)) data) :
    s.dispatchRead counted a = (s.bumpIf counted .hits).withHit w data a := by
  rw [State.dispatchRead, if_pos hcache, State.readLookup, State.lookup_of_valid unique hsweep hway]
  apply State.ext <;> simp [State.withHit, BusInterface.afterRead, Directory.put_eq_withSet, CacheSet.toFront_eq hway]

/-- A read whose line is being filled joins the way's entry (R134). -/
theorem State.dispatchRead_join {a : Access} {w ref : Fin 4} {k : ReadWork} {p : Purpose} {x : Option Target}
    (counted : Bool) (hcache : a.attrs.cacheable = true) (hsweep : s.sweep.isRunning = false) (unique : s.UniqueLaw)
    (hway : (s.dir.get (setOf (lineOf a.remote))).ways[w] = .filling (Machine.tagOf (lineOf a.remote)) ref)
    (hk : (s.reads.entries[ref]).work = some k) (hreq : k.request = .line (lineOf a.remote) p x) :
    s.dispatchRead counted a = (s.bumpIf counted .misses).withJoined ref k x a := by
  have hjoin : (s.reads.entries[ref]).work.map (ReadWork.join a.window) =
      some { k with request := .line (lineOf a.remote) .demand x, window := a.window, waiter := true } := by
    rw [hk, Option.map_some, ReadWork.join, hreq]
  rw [State.dispatchRead, if_pos hcache, State.readLookup, State.lookup_of_filling unique hsweep hway]
  apply State.ext <;> simp [State.withJoined, ReadTable.withEntry, ReadEntry.onWork, -Fin.getElem_fin, hjoin]

/-- The two rows that end a read's wait go on with its dispatch and the transmitter's choice. -/
theorem exec_endsReadWait {a : Access} {tag : Fin 4} {counted : Bool} {c : Instr} (ha : s.bus.access = some a)
    (hfree : s.freeEntry = some tag)
    (hc : (c = .readResumesFreeEntry ∧ a.wait = .freeEntry ∧ counted = false) ∨
      (c = .orderedReadDispatch ∧ a.wait = .queueEmpty ∧ s.wq.entries = [] ∧ counted = true)) :
    exec c s = .next (s.dispatchRead counted a).transmit := by
  rcases hc with ⟨rfl, hwait, rfl⟩ | ⟨rfl, hwait, hempty, rfl⟩
  · exact congrArg (fun t => Host.Outcome.next t.transmit) (State.resumeFreeEntry_waiting ha hwait hfree)
  · exact congrArg (fun t => Host.Outcome.next t.transmit) (State.resumeQueueEmpty_waiting ha hwait hempty)

/-- Settles O60: a row finds its wait and goes on as the event that ends the wait does, or finds none. -/
theorem waitsEndAndTheAccessGoesOn : Obligations.WaitsEndAndTheAccessGoesOn := by
  intro s
  refine ⟨fun law => ⟨fun h => ?_, fun h => ?_, fun h => ?_⟩, fun a ha => ⟨?_, ?_⟩⟩
  · exact congrArg Host.Outcome.next (by rw [State.resumeFreeEntry_idle h, State.transmit_of_noOffer law])
  · exact congrArg Host.Outcome.next (by rw [State.resumeQueueSpace_idle h, State.transmit_of_noOffer law])
  · exact congrArg Host.Outcome.next (by rw [State.resumeQueueEmpty_idle h, State.transmit_of_noOffer law])
  · intro kept hwait hdata hspace hyoungest
    exact congrArg (fun t => Host.Outcome.next (State.transmit t))
      ((State.resumeQueueSpace_waiting ha hwait hspace).trans (State.presentWrite_append hdata hspace hyoungest))
  · intro tag counted c hlowest hc
    have hfree := State.freeEntry_of_lowest hlowest
    rw [exec_endsReadWait ha hfree hc]
    refine ⟨fun hcache => ?_, fun hcache hmiss => ?_, fun hcache hsweep unique law w => ⟨fun data hway => ?_, ?_⟩⟩
    · rw [State.dispatchRead_word counted hcache hfree]
    · rw [State.dispatchRead_miss counted hcache hfree hmiss, State.bumpIf_misses, State.setAccess,
        State.considerPrefetch_bus]
      rfl
    · rw [State.dispatchRead_hit counted hcache hsweep unique hway, State.bumpIf_hits, State.transmit_of_same law]
      all_goals rfl
    · intro ref k p x hway hk hreq
      rw [State.dispatchRead_join counted hcache hsweep unique hway hk hreq, State.bumpIf_misses,
        State.transmit_of_same law]
      all_goals rfl

end Sys2Proof.Machine
end

section
/-! SUPPORT. Teardown and failure: what a run of drops does to a set, what the end of every entry leaves of the read table and
the directory under the law of the fill reference, and each field of a torn-down and of a failed bridge. -/

namespace Sys2Proof.Machine

/-! ## A run of drops in one set (R12) -/

/-- Several ways of a set dropped, each to the back in its turn. -/
def CacheSet.dropAll (c : CacheSet) (ws : List (Fin 4)) : CacheSet :=
  ws.foldl (fun c w => c.drop w) c

theorem CacheSet.getElem_drop (c : CacheSet) (w v : Fin 4) :
    ((c.drop w).ways)[v] = if v = w then .invalid else c.ways[v] :=
  CacheSet.getElem_setWay c w v .invalid

theorem CacheSet.getElem_dropAll (c : CacheSet) (ws : List (Fin 4)) (v : Fin 4) :
    ((c.dropAll ws).ways)[v] = if v ∈ ws then .invalid else c.ways[v] := by
  induction ws generalizing c with
  | nil => rfl
  | cons w ws ih =>
    rw [show c.dropAll (w :: ws) = (c.drop w).dropAll ws from rfl, ih, CacheSet.getElem_drop]
    by_cases hv : v ∈ ws <;> simp [hv]

theorem CacheSet.order_dropAll (c : CacheSet) {ws : List (Fin 4)} (hws : ws.Nodup) :
    (c.dropAll ws).order = (c.order.filter fun v => decide (v ∉ ws)) ++ ws := by
  induction ws generalizing c with
  | nil => simp [CacheSet.dropAll]
  | cons w ws ih =>
    obtain ⟨hw, hws⟩ := List.nodup_cons.mp hws
    rw [show c.dropAll (w :: ws) = (c.drop w).dropAll ws from rfl, ih _ hws]
    have horder : (c.drop w).order = c.order.filter (fun v => v != w) ++ [w] := rfl
    have hothers : (c.order.filter fun v => decide (v ∉ ws) && v != w) = c.order.filter fun v => decide (v ∉ w :: ws) :=
      List.filter_congr fun v _ => by by_cases h : v = w <;> simp [h]
    rw [horder, List.filter_append, List.filter_filter, hothers]
    simp [hw]

/-- A set after some of its FILLING ways, each once, have been dropped. -/
def CacheSet.Drops (c c' : CacheSet) : Prop :=
  ∃ ws : List (Fin 4), ws.Nodup ∧ (∀ w ∈ ws, (c.ways[w]).isFilling = true) ∧ c' = c.dropAll ws

theorem CacheSet.Drops.refl (c : CacheSet) : c.Drops c :=
  ⟨[], List.nodup_nil, by simp, rfl⟩

/-- One more FILLING way dropped. -/
theorem CacheSet.Drops.drop {c c' : CacheSet} (h : c.Drops c') {w : Fin 4} (hw : (c'.ways[w]).isFilling = true) :
    c.Drops (c'.drop w) := by
  obtain ⟨ws, hnodup, hfilling, rfl⟩ := h
  rw [CacheSet.getElem_dropAll] at hw
  by_cases hmem : w ∈ ws
  · rw [if_pos hmem] at hw
    cases hw
  · rw [if_neg hmem] at hw
    refine ⟨ws ++ [w], hnodup.append (List.nodup_singleton w) (by simpa using hmem), ?_, ?_⟩
    · intro v hv
      rcases List.mem_append.mp hv with hv | hv
      · exact hfilling v hv
      · rw [List.mem_singleton.mp hv]
        exact hw
    · rw [CacheSet.dropAll, CacheSet.dropAll, List.foldl_append]
      rfl

/-- Once no way is FILLING, every FILLING way has been dropped: those are INVALID, the others as they were (R12). -/
theorem CacheSet.Drops.getElem {c c' : CacheSet} (h : c.Drops c') (hnone : ∀ v : Fin 4, (c'.ways[v]).isFilling = false)
    (w : Fin 4) : c'.ways[w] = if (c.ways[w]).isFilling then .invalid else c.ways[w] := by
  obtain ⟨ws, -, hfilling, rfl⟩ := h
  have hw := hnone w
  rw [CacheSet.getElem_dropAll] at hw ⊢
  by_cases hmem : w ∈ ws
  · rw [if_pos hmem, if_pos (hfilling w hmem)]
  · rw [if_neg hmem] at hw ⊢
    rw [hw]
    rfl

/-- Once no way is FILLING, the FILLING ways stand behind the others, which keep their relative order (R12). -/
theorem CacheSet.Drops.order {c c' : CacheSet} (h : c.Drops c') (hnone : ∀ v : Fin 4, (c'.ways[v]).isFilling = false) :
    ∃ back : List (Fin 4), c'.order = (c.order.filter fun w => !(c.ways[w]).isFilling) ++ back ∧
      back.Perm ((List.finRange 4).filter fun w => (c.ways[w]).isFilling) := by
  obtain ⟨ws, hnodup, hfilling, rfl⟩ := h
  have hmem (w : Fin 4) : w ∈ ws ↔ (c.ways[w]).isFilling = true := by
    refine ⟨hfilling w, fun hw => ?_⟩
    have hgone := hnone w
    rw [CacheSet.getElem_dropAll] at hgone
    by_contra hne
    rw [if_neg hne, hw] at hgone
    cases hgone
  refine ⟨ws, ?_, ?_⟩
  · rw [CacheSet.order_dropAll c hnodup]
    congr 1
    refine List.filter_congr fun w _ => ?_
    simp [hmem, -Fin.getElem_fin]
  · rw [List.perm_ext_iff_of_nodup hnodup ((List.nodup_finRange 4).filter _)]
    intro w
    simp [hmem, -Fin.getElem_fin]

/-! ## A sweep start with nothing to release (R81) -/

theorem CacheSet.releaseAll_of_noFilling {c : CacheSet} (rank : Fin 4 → Nat)
    (hnone : ∀ v : Fin 4, (c.ways[v]).isFilling = false) : c.releaseAll rank = c := by
  simp [CacheSet.releaseAll, CacheSet.fillingByRank, hnone, -Fin.getElem_fin]

theorem ReadEntry.released_of_free {e : ReadEntry} (h : e.work = none) : e.released = e := by
  cases e
  cases h
  rfl

/-- A sweep start changes no set of a directory without a FILLING way. -/
theorem State.get_startSweep_of_noFilling {s : State} (hnone : s.NoFilling) (i : SetIndex) :
    s.startSweep.dir.get i = s.dir.get i := by
  unfold State.startSweep
  split
  · rfl
  · rw [Directory.get_releaseAll, CacheSet.releaseAll_of_noFilling _ (hnone i)]

/-- A sweep start leaves a FREE entry as it is. -/
theorem State.getElem_startSweep_of_free {s : State} {tag : Fin 4} (h : (s.reads.entries[tag]).work = none) :
    s.startSweep.reads.entries[tag] = s.reads.entries[tag] := by
  unfold State.startSweep
  split
  · rfl
  · simpa using ReadEntry.released_of_free h

theorem State.startSweep_hold (s : State) : s.startSweep.dir.hold = s.dir.hold := by
  unfold State.startSweep
  split <;> rfl

theorem State.startSweep_sendList (s : State) : s.startSweep.reads.sendList = s.reads.sendList := by
  unfold State.startSweep
  split <;> rfl

/-- A sweep runs after a sweep start: the one that ran, or a new one from set 0 (R81, R82). -/
theorem State.startSweep_sweep (s : State) :
    s.startSweep.sweep = if s.sweep.isRunning then s.sweep else .running 0#8 := by
  unfold State.startSweep
  cases h : s.sweep <;> simp [h, Sweep.isRunning]

/-! ## The end of one entry (R44) -/

/-- What teardown makes of one entry (R44). -/
def ReadEntry.ended (e : ReadEntry) : ReadEntry :=
  match e.work with
  | some _ => { e with work := none, timer := .stopped }
  | none => e

theorem ReadEntry.ended_work (e : ReadEntry) : e.ended.work = none := by
  unfold ReadEntry.ended
  split
  · rfl
  · assumption

theorem ReadEntry.ended_issue (e : ReadEntry) : e.ended.issue = e.issue := by
  unfold ReadEntry.ended
  split <;> rfl

theorem ReadEntry.ended_retries (e : ReadEntry) : e.ended.retries = e.retries := by
  unfold ReadEntry.ended
  split <;> rfl

theorem ReadEntry.ended_timer {e : ReadEntry} (h : e.work.isSome = true) : e.ended.timer = .stopped := by
  unfold ReadEntry.ended
  split
  · rfl
  · simp_all

theorem ReadEntry.ended_ended (e : ReadEntry) : e.ended.ended = e.ended := by
  rw [ReadEntry.ended.eq_def e.ended, ReadEntry.ended_work]

/-- One entry ended, the others as they were (R44). -/
theorem State.getElem_endEntry (s : State) (tag u : Fin 4) :
    (s.endEntry tag).reads.entries[u] = if u = tag then (s.reads.entries[u]).ended else s.reads.entries[u] := by
  unfold State.endEntry ReadEntry.ended
  by_cases hu : u = tag
  · subst hu
    cases (s.reads.entries[u]).work <;> simp
  · cases h : (s.reads.entries[tag]).work <;> simp [hu]
    exact Vector.getElem_set_ne _ _ fun e => hu (Fin.ext e.symm)

theorem State.endEntry_dir (s : State) (tag : Fin 4) :
    (s.endEntry tag).dir = s.dir.failed ((s.reads.entries[tag]).work.bind ReadWork.target?) := by
  unfold State.endEntry
  cases (s.reads.entries[tag]).work with
  | none => rfl
  | some w => exact congrArg State.dir (State.failFill_eq w.target? s)

theorem Directory.failed_hold (d : Directory) (target : Option Target) : (d.failed target).hold = d.hold := by
  cases target <;> rfl

/-- One way of the directory after a fill has failed (R12). -/
theorem Directory.getElem_failed (d : Directory) (x : Target) (i : SetIndex) (v : Fin 4) :
    (((d.failed (some x)).get i).ways)[v] = if (⟨i, v⟩ : Target) = x then .invalid else ((d.get i).ways)[v] := by
  have hget : (d.failed (some x)).get i = if i = x.set then (d.get x.set).drop x.way else d.get i :=
    Directory.get_put d x.set i _
  rw [hget]
  by_cases hi : i = x.set
  · subst hi
    rw [if_pos rfl, CacheSet.getElem_drop]
    cases x
    simp
  · rw [if_neg hi, if_neg (by rintro rfl; exact hi rfl)]

theorem ReadWork.request_of_target {w : ReadWork} {x : Target} (h : w.target? = some x) :
    ∃ line p, w.request = .line line p (some x) := by
  unfold ReadWork.target? at h
  split at h
  · rename_i line p target hreq
    exact ⟨line, p, by rw [hreq, h]⟩
  · cases h

/-- Under the law of the fill reference the target way of an entry is FILLING with the entry's tag (R10). -/
theorem State.FillLaw.filling {s : State} (fill : s.FillLaw) {tag : Fin 4} {x : Target}
    (h : (s.reads.entries[tag]).work.bind ReadWork.target? = some x) :
    ∃ t, ((s.dir.get x.set).ways)[x.way] = .filling t tag := by
  obtain ⟨w, hw, hx⟩ := Option.bind_eq_some_iff.mp h
  obtain ⟨line, p, hreq⟩ := ReadWork.request_of_target hx
  exact ⟨_, (fill.2 tag w line p x hw hreq).2⟩

/-- Under the law of the fill reference a FILLING way is the target way of the entry it names (R10). -/
theorem State.FillLaw.target {s : State} (fill : s.FillLaw) {i : SetIndex} {v : Fin 4} {t : Tag} {ref : Fin 4}
    (h : ((s.dir.get i).ways)[v] = .filling t ref) :
    (s.reads.entries[ref]).work.bind ReadWork.target? = some ⟨i, v⟩ := by
  obtain ⟨w, hw, hx⟩ := fill.1 i v t ref h
  rw [hw]
  exact hx

/-- After the end of an entry the ways that are FILLING are those that were for other entries (R12). -/
theorem State.FillLaw.filling_endEntry {s : State} (fill : s.FillLaw) (tag : Fin 4) (i : SetIndex) (v : Fin 4) (t : Tag)
    (ref : Fin 4) :
    (((s.endEntry tag).dir.get i).ways)[v] = .filling t ref ↔ ((s.dir.get i).ways)[v] = .filling t ref ∧ ref ≠ tag := by
  rw [State.endEntry_dir]
  cases hx : (s.reads.entries[tag]).work.bind ReadWork.target? with
  | none =>
    refine ⟨fun h => ⟨h, ?_⟩, And.left⟩
    rintro rfl
    rw [fill.target h] at hx
    cases hx
  | some x =>
    obtain ⟨t', hfilling⟩ := fill.filling hx
    rw [Directory.getElem_failed]
    by_cases hiv : (⟨i, v⟩ : Target) = x
    · subst hiv
      simp [hfilling, -Fin.getElem_fin]
      exact fun _ e => e.symm
    · rw [if_neg hiv]
      refine ⟨fun h => ⟨h, ?_⟩, And.left⟩
      rintro rfl
      exact hiv (Option.some.inj ((fill.target h).symm.trans hx))

/-- The end of an entry keeps the law of the fill reference (R10). -/
theorem State.FillLaw.endEntry {s : State} (fill : s.FillLaw) (tag : Fin 4) : (s.endEntry tag).FillLaw := by
  have hway := fill.filling_endEntry tag
  refine ⟨fun i v t ref h => ?_, fun u work line p x hw hreq => ?_⟩
  · obtain ⟨h, hne⟩ := (hway i v t ref).mp h
    rw [State.getElem_endEntry, if_neg hne]
    exact fill.1 i v t ref h
  · rw [State.getElem_endEntry] at hw
    by_cases hu : u = tag
    · rw [if_pos hu, ReadEntry.ended_work] at hw
      cases hw
    · rw [if_neg hu] at hw
      obtain ⟨hset, hfilling⟩ := fill.2 u work line p x hw hreq
      exact ⟨hset, (hway _ _ _ _).mpr ⟨hfilling, hu⟩⟩

/-- The end of an entry drops its target way, which is FILLING, and no other (R12). -/
theorem State.FillLaw.drops_endEntry {s : State} (fill : s.FillLaw) (tag : Fin 4) {c : CacheSet} {i : SetIndex}
    (h : c.Drops (s.dir.get i)) : c.Drops ((s.endEntry tag).dir.get i) := by
  rw [State.endEntry_dir]
  cases hx : (s.reads.entries[tag]).work.bind ReadWork.target? with
  | none => exact h
  | some x =>
    obtain ⟨t, hfilling⟩ := fill.filling hx
    have hget : (s.dir.failed (some x)).get i = if i = x.set then (s.dir.get x.set).drop x.way else s.dir.get i :=
      Directory.get_put s.dir x.set i _
    rw [hget]
    split
    · rename_i hi
      subst hi
      exact h.drop (by rw [hfilling]; rfl)
    · exact h

/-! ## The end of every entry (R44) -/

/-- The first part of teardown: the read table's entries end in turn (R44). -/
def State.endEntries (s : State) (tags : List (Fin 4)) : State :=
  tags.foldl State.endEntry s

/-- The entries' end changes the directory and the read table alone. -/
theorem State.endEntries_frame (s : State) (tags : List (Fin 4)) :
    s.endEntries tags = { s with dir := (s.endEntries tags).dir, reads := (s.endEntries tags).reads } := by
  induction tags generalizing s with
  | nil => rfl
  | cons tag tags ih =>
    refine (ih (s.endEntry tag)).trans ?_
    apply State.ext <;> simp [State.endEntries]

theorem State.endEntries_hold (s : State) (tags : List (Fin 4)) : (s.endEntries tags).dir.hold = s.dir.hold := by
  induction tags generalizing s with
  | nil => rfl
  | cons tag tags ih =>
    exact (ih (s.endEntry tag)).trans (by rw [State.endEntry_dir, Directory.failed_hold])

theorem State.getElem_endEntries (s : State) (tags : List (Fin 4)) (u : Fin 4) :
    (s.endEntries tags).reads.entries[u] = if u ∈ tags then (s.reads.entries[u]).ended else s.reads.entries[u] := by
  induction tags generalizing s with
  | nil => rfl
  | cons tag tags ih =>
    rw [show s.endEntries (tag :: tags) = (s.endEntry tag).endEntries tags from rfl, ih, State.getElem_endEntry]
    by_cases hu : u = tag <;> by_cases hmem : u ∈ tags <;> simp [hu, hmem, ReadEntry.ended_ended]

theorem State.FillLaw.endEntries {s : State} (fill : s.FillLaw) (tags : List (Fin 4)) : (s.endEntries tags).FillLaw := by
  induction tags generalizing s with
  | nil => exact fill
  | cons tag tags ih => exact ih (fill.endEntry tag)

theorem State.FillLaw.drops_endEntries {s : State} (fill : s.FillLaw) (tags : List (Fin 4)) {c : CacheSet} {i : SetIndex}
    (h : c.Drops (s.dir.get i)) : c.Drops ((s.endEntries tags).dir.get i) := by
  induction tags generalizing s with
  | nil => exact h
  | cons tag tags ih => exact ih (fill.endEntry tag) (fill.drops_endEntry tag h)

/-- With every entry FREE no way is FILLING, since a FILLING way names an OUTSTANDING entry (R10). -/
theorem State.FillLaw.noFilling {s : State} (fill : s.FillLaw) (hfree : ∀ t : Fin 4, (s.reads.entries[t]).work = none) :
    s.NoFilling := by
  intro i w
  cases hway : ((s.dir.get i).ways)[w] with
  | filling t ref =>
    obtain ⟨work, hwork, -⟩ := fill.1 i w t ref hway
    rw [hfree] at hwork
    cases hwork
  | invalid => rfl
  | valid t data => rfl

/-! ## The other blocks at teardown (R152, R143) -/

theorem State.endSync_eq (s : State) :
    s.endSync =
      if s.sync.fails then { s with sync := { s.sync with timer := .stopped, state := .failed } }.setSyncFlag
      else { s with sync := { s.sync with timer := .stopped } } := by
  unfold State.endSync SyncUnit.fails
  cases s.sync.state <;> rfl

theorem State.endSync_sync (s : State) :
    s.endSync.sync = { s.sync with timer := .stopped, state := if s.sync.fails then .failed else s.sync.state } := by
  rw [State.endSync_eq]
  cases s.sync.fails <;> rfl

theorem State.endSync_irq (s : State) :
    s.endSync.irq = { s.irq with flags := { s.irq.flags with sync := s.irq.flags.sync || s.sync.fails } } := by
  rw [State.endSync_eq]
  cases s.sync.fails <;> simp

/-- What the pending access's end at teardown does to the bus interface (R143). -/
theorem State.endAtTeardown_bus_congr {s t : State} (h : s.bus = t.bus) : s.endAtTeardown.bus = t.endAtTeardown.bus := by
  unfold State.endAtTeardown
  rw [h]
  repeat' split
  all_goals simp [h]

/-! ## Teardown (R98) -/

/-- Teardown up to the sweep start (R98): every entry ended, the send list and the queue empty, the barrier and the pending
access ended. -/
def State.endBlocks (s : State) : State :=
  let e := s.endEntries (List.finRange 4)
  { e with reads := { e.reads with sendList := [] }, wq := e.wq.emptied }.endSync.endAtTeardown

theorem State.endBlocks_eq (s : State) :
    s.endBlocks =
      { s with
        bus := s.endAtTeardown.bus
        dir := (s.endEntries (List.finRange 4)).dir
        reads := { (s.endEntries (List.finRange 4)).reads with sendList := [] }
        wq := s.wq.emptied
        sync := s.endSync.sync
        irq := s.endSync.irq } := by
  unfold State.endBlocks
  rw [State.endEntries_frame]
  apply State.ext <;> simp [State.endSync_sync, State.endSync_irq]
  exact State.endAtTeardown_bus_congr (by simp)

theorem State.teardown_eq_startSweep (s : State) :
    s.teardown =
      { s.endBlocks.startSweep with
        link := { s.endBlocks.startSweep.link with
          quietTimer := .stopped, joinPending := false, joinTimer := .stopped } } := rfl

theorem State.endBlocks_noFilling {s : State} (fill : s.FillLaw) : s.endBlocks.NoFilling := by
  rw [State.endBlocks_eq]
  refine (fill.endEntries (List.finRange 4)).noFilling fun t => ?_
  rw [State.getElem_endEntries, if_pos (List.mem_finRange t), ReadEntry.ended_work]

theorem State.teardown_bus (s : State) : s.teardown.bus = s.endAtTeardown.bus := by
  simp [State.teardown_eq_startSweep, State.endBlocks_eq]

theorem State.teardown_wq (s : State) : s.teardown.wq = s.wq.emptied := by
  simp [State.teardown_eq_startSweep, State.endBlocks_eq]

theorem State.teardown_sync (s : State) : s.teardown.sync = s.endSync.sync := by
  simp [State.teardown_eq_startSweep, State.endBlocks_eq]

theorem State.teardown_irq (s : State) : s.teardown.irq = s.endSync.irq := by
  simp [State.teardown_eq_startSweep, State.endBlocks_eq]

theorem State.teardown_link (s : State) :
    s.teardown.link = { s.link with quietTimer := .stopped, joinPending := false, joinTimer := .stopped } := by
  simp [State.teardown_eq_startSweep, State.endBlocks_eq]

theorem State.teardown_sweep (s : State) : s.teardown.sweep = if s.sweep.isRunning then s.sweep else .running 0#8 := by
  simp [State.teardown_eq_startSweep, State.endBlocks_eq, State.startSweep_sweep]

theorem State.teardown_sendList (s : State) : s.teardown.reads.sendList = [] := by
  simp [State.teardown_eq_startSweep, State.endBlocks_eq, State.startSweep_sendList]

theorem State.teardown_hold (s : State) : s.teardown.dir.hold = s.dir.hold := by
  simp [State.teardown_eq_startSweep, State.endBlocks_eq, State.startSweep_hold, State.endEntries_hold]

/-- Each entry ends at teardown, and the sweep start has no target way of it to release (R44). -/
theorem State.getElem_teardown (s : State) (tag : Fin 4) :
    s.teardown.reads.entries[tag] = (s.reads.entries[tag]).ended := by
  have hended : s.endBlocks.reads.entries[tag] = (s.reads.entries[tag]).ended := by
    rw [State.endBlocks_eq]
    exact (State.getElem_endEntries s _ tag).trans (if_pos (List.mem_finRange tag))
  rw [State.teardown_eq_startSweep, ← hended]
  exact State.getElem_startSweep_of_free (by rw [hended, ReadEntry.ended_work])

/-- The sweep start of a teardown finds no FILLING way to release, so it changes no set (R44, R81). -/
theorem State.get_teardown {s : State} (fill : s.FillLaw) (i : SetIndex) :
    s.teardown.dir.get i = s.endBlocks.dir.get i := by
  rw [State.teardown_eq_startSweep]
  exact State.get_startSweep_of_noFilling (State.endBlocks_noFilling fill) i

/-- Teardown changes a set by drops of FILLING ways alone (R12). -/
theorem State.drops_teardown {s : State} (fill : s.FillLaw) (i : SetIndex) :
    (s.dir.get i).Drops (s.teardown.dir.get i) := by
  rw [State.get_teardown fill, State.endBlocks_eq]
  exact fill.drops_endEntries (List.finRange 4) (CacheSet.Drops.refl _)

theorem State.teardown_noFilling {s : State} (fill : s.FillLaw) : s.teardown.NoFilling := by
  intro i w
  rw [State.get_teardown fill]
  exact State.endBlocks_noFilling fill i w

/-- Teardown does to every block what R98 says. -/
theorem State.tornDown_teardown {s : State} (fill : s.FillLaw) : State.TornDown s s.teardown where
  entries tag := by
    rw [State.getElem_teardown]
    exact ⟨ReadEntry.ended_work _, ReadEntry.ended_issue _, ReadEntry.ended_retries _, ReadEntry.ended_timer⟩
  sendList := State.teardown_sendList s
  queue := State.teardown_wq s
  sync := by rw [State.teardown_sync, State.endSync_sync]
  syncFlag := by rw [State.teardown_irq, State.endSync_irq]
  ways i := (State.drops_teardown fill i).getElem (State.teardown_noFilling fill i)
  order i := (State.drops_teardown fill i).order (State.teardown_noFilling fill i)
  sweep := State.teardown_sweep s
  hold := State.teardown_hold s
  windows := by simp
  notices := by simp
  counters := by simp
  settings := by simp
  sel := by simp
  enables := by rw [State.teardown_irq, State.endSync_irq]
  sweepFlag := by rw [State.teardown_irq, State.endSync_irq]
  pins := by simp

/-! ## Failure from UP (R97 to R100) -/

/-- What a record does to the record queue depends on the record queue alone. -/
theorem State.handRecord_records_congr {s t : State} (r : ErrorRecord) (h : s.records = t.records) :
    (s.handRecord r).records = (t.handRecord r).records := by
  unfold State.handRecord
  rw [h]
  repeat' split
  all_goals simp

/-- Of the flags a record can set RECORD alone, as the record queue decides (R157). -/
theorem State.handRecord_flags (s : State) (r : ErrorRecord) :
    (s.handRecord r).irq =
      { s.irq with flags := { s.irq.flags with record := (s.handRecord r).irq.flags.record } } := by
  unfold State.handRecord
  repeat' split
  all_goals simp

theorem State.handRecord_recordFlag_congr {s t : State} (r : ErrorRecord) (hrecords : s.records = t.records)
    (hflag : s.irq.flags.record = t.irq.flags.record) :
    (s.handRecord r).irq.flags.record = (t.handRecord r).irq.flags.record := by
  unfold State.handRecord
  rw [hrecords]
  repeat' split
  all_goals simp [hflag]

/-- The transmitter, FREE, takes a pending JOIN before all else (R94, R103). -/
theorem State.transmit_join {s : State} (hr : s.pins.resetAsserted = false) (hfree : s.link.tx = .free)
    (hjoin : s.link.joinPending = true) : s.transmit = s.takeJoin := by
  simp [State.transmit, hr, hfree, hjoin]

/-- The record of a failure (R99). -/
def failureRecord (cause : Cause) (s : State) : ErrorRecord :=
  ⟨.linkFailed cause (BitVec.ofNat 4 s.wq.entries.length), 1#8⟩

/-- The bridge torn down with its failure reported, before it rejoins or rests (R97 to R99). -/
def State.afterFailure (cause : Cause) (s : State) : State :=
  (s.linkFailed cause).teardown.reportFailure cause s.wq.entries.length

/-- A failure's report hands its record to the record queue as it was before the failure, and sets LINK (R99). -/
theorem State.afterFailure_eq (cause : Cause) (s : State) :
    s.afterFailure cause =
      { (s.linkFailed cause).teardown with
        records := (s.handRecord (failureRecord cause s)).records
        irq := { (s.linkFailed cause).teardown.irq with
          flags := { (s.linkFailed cause).teardown.irq.flags with
            record := (s.handRecord (failureRecord cause s)).irq.flags.record, link := true } } } := by
  have hrecords : (s.linkFailed cause).teardown.records = s.records := by simp
  have hflag : (s.linkFailed cause).teardown.irq.flags.record = s.irq.flags.record := by
    rw [State.teardown_irq, State.endSync_irq]
    rfl
  rw [← State.handRecord_records_congr _ hrecords, ← State.handRecord_recordFlag_congr _ hrecords hflag,
    State.afterFailure, State.reportFailure]
  apply State.ext <;> simp [failureRecord]
  rw [State.handRecord_flags]
  simp

/-- Teardown says nothing of the link controller it began with. -/
theorem State.TornDown.of_link {s t : State} {link : LinkController} (h : State.TornDown { s with link := link } t) :
    State.TornDown s t :=
  ⟨h.entries, h.sendList, h.queue, h.sync, h.syncFlag, h.ways, h.order, h.sweep, h.hold, h.windows, h.notices, h.counters,
    h.settings, h.sel, h.enables, h.sweepFlag, h.pins⟩

/-- Teardown says nothing of the records, of the RECORD and LINK flags, and of the link controller it leaves. -/
theorem State.TornDown.with_report {s t : State} (h : State.TornDown s t) (records : RecordQueue) (record link : Bool)
    (controller : LinkController) :
    State.TornDown s { t with
      records := records
      irq := { t.irq with flags := { t.irq.flags with record := record, link := link } }
      link := controller } :=
  ⟨h.entries, h.sendList, h.queue, h.sync, h.syncFlag, h.ways, h.order, h.sweep, h.hold, h.windows, h.notices, h.counters,
    h.settings, h.sel, h.enables, h.sweepFlag, h.pins⟩

/-- Teardown of a link that has just failed does to the other blocks what R98 says. -/
theorem State.tornDown_afterFailure {s : State} (cause : Cause) (fill : s.FillLaw) (controller : LinkController) :
    State.TornDown s { s.afterFailure cause with link := controller } := by
  have torn : State.TornDown s (s.linkFailed cause).teardown := State.TornDown.of_link (State.tornDown_teardown fill)
  rw [State.afterFailure_eq]
  generalize (s.linkFailed cause).teardown = t at torn ⊢
  exact torn.with_report _ _ _ _

theorem State.afterFailure_link (cause : Cause) (s : State) :
    (s.afterFailure cause).link =
      { s.link with state := .failed, lastCause := some cause, quietTimer := .stopped, joinPending := false,
                    joinTimer := .stopped } := by
  rw [State.afterFailure_eq]
  exact State.teardown_link (s.linkFailed cause)

theorem State.fail_eq (cause : Cause) (s : State) :
    s.fail cause =
      (if (s.afterFailure cause).link.autoRejoin then (s.afterFailure cause).beginJoin else s.afterFailure cause).transmit :=
  rfl

/-- Teardown leaves no barrier that could send its SYNC frame (R152). -/
theorem State.not_ready_teardown (s : State) : s.teardown.sync.ready = false := by
  rw [State.teardown_sync, State.endSync_sync]
  unfold SyncUnit.ready SyncUnit.fails
  cases s.sync.state <;> cases s.sync.mark <;> rfl

/-- Teardown leaves nothing for the transmitter (R98). -/
theorem State.not_offered_afterFailure (cause : Cause) (s : State) : ¬ (s.afterFailure cause).Offered := by
  unfold State.Offered
  rw [State.afterFailure_link]
  simp [State.afterFailure_eq, State.teardown_sendList, State.teardown_wq, WriteQueue.emptied, writeOffer,
    State.not_ready_teardown]

/-- The link controller after a failure (R97, R100): FAILED, or JOINING under AUTO_REJOIN, the JOIN taken at once if the
transmitter is FREE. -/
def State.failureLink (cause : Cause) (s : State) : LinkController :=
  let rest : LinkController :=
    { s.link with state := .failed, lastCause := some cause, quietTimer := .stopped, joinPending := false,
                  joinTimer := .stopped }
  if s.link.autoRejoin then
    match s.link.tx with
    | .sending _ => { rest with state := .joining, joinPending := true, joinRetries := 0#3 }
    | .free =>
      { rest with state := .joining, joinRetries := 0#3, joinTimer := s.startTimer,
                  tx := .sending (.join s.link.boardNumber 3#8) }
  else rest

/-- A failure ends with the transmitter's choice, which changes the link controller alone (R100, R102). -/
theorem State.fail_eq_failureLink {s : State} (cause : Cause) (hr : s.pins.resetAsserted = false) :
    s.fail cause = { s.afterFailure cause with link := s.failureLink cause } := by
  have hlink := State.afterFailure_link cause s
  have hpins : (s.afterFailure cause).pins = s.pins := by simp [State.afterFailure]
  have hsettings : (s.afterFailure cause).settings = s.settings := by simp [State.afterFailure]
  rw [State.fail_eq, State.failureLink]
  simp only [hlink]
  cases hrejoin : s.link.autoRejoin with
  | false =>
    simp only [Bool.false_eq_true, if_false]
    rw [State.transmit_of_noOffer fun _ => State.not_offered_afterFailure cause s]
    apply State.ext <;> simp [hlink, hrejoin]
  | true =>
    simp only [if_true]
    cases htx : s.link.tx with
    | sending f =>
      rw [State.transmit_of_noOffer fun h => absurd h (by simp [hlink, htx])]
      apply State.ext <;> simp [hlink, hrejoin, htx]
    | free =>
      rw [State.transmit_join (by simpa [hpins] using hr) (by simp [hlink, htx]) rfl]
      apply State.ext <;> simp [State.takeJoin, State.startTimer, hlink, hsettings, hrejoin, Config.revision]

theorem State.afterFailure_bus (cause : Cause) (s : State) : (s.afterFailure cause).bus = s.endAtTeardown.bus := by
  rw [State.afterFailure_eq]
  dsimp only
  rw [State.teardown_bus]
  exact State.endAtTeardown_bus_congr rfl

/-- What R97 to R100 say of a failure, from its fields. -/
theorem State.failedFromUp_of_fields {cause : Cause} {s t : State} (torn : State.TornDown s t)
    (bus : t.bus = s.endAtTeardown.bus) (records : t.records = (s.handRecord (failureRecord cause s)).records)
    (flags : t.irq.flags.record = (s.handRecord (failureRecord cause s)).irq.flags.record ∧ t.irq.flags.link = true)
    (command : t.cmd = s.cmd) (link : t.link = s.failureLink cause) : State.FailedFromUp cause s t := by
  refine ⟨torn, bus.trans ?_, records, flags.1, flags.2, command, fun hrest => ?_, fun hrejoin f hf => ?_,
    fun hrejoin hf => ?_⟩
  · unfold State.endAtTeardown
    cases s.bus.access with
    | none => rfl
    | some a => rcases a with ⟨_ | _⟩ <;> rfl
  · simp [link, State.failureLink, hrest]
  · simp [link, State.failureLink, hrejoin, hf]
  · simp [link, State.failureLink, hrejoin, hf, State.startTimer]

/-- A failure from UP leaves what R97 to R100 say. -/
theorem State.failedFromUp_fail {s : State} (cause : Cause) (hr : s.pins.resetAsserted = false) (fill : s.FillLaw) :
    State.FailedFromUp cause s (s.fail cause) := by
  have hfail := State.fail_eq_failureLink cause hr
  apply State.failedFromUp_of_fields
  · rw [hfail]
    exact State.tornDown_afterFailure cause fill _
  · simp only [hfail, State.afterFailure_bus]
  · rw [hfail, State.afterFailure_eq]
  · rw [hfail, State.afterFailure_eq]
    exact ⟨rfl, rfl⟩
  · simp
  · rw [hfail]

/-- The quiet timer's restart at the frame's arrival (R106) is lost in the failure, which stops it (R98). -/
theorem State.FailedFromUp.of_restartQuiet {cause : Cause} {s t : State} (h : State.FailedFromUp cause s.restartQuiet t) :
    State.FailedFromUp cause s t where
  torn := State.TornDown.of_link h.torn
  access := h.access
  records := h.records.trans (State.handRecord_records_congr _ rfl)
  recordFlag := h.recordFlag.trans (State.handRecord_recordFlag_congr _ rfl rfl)
  linkFlag := h.linkFlag
  command := h.command
  rests := h.rests
  rejoinsLater := h.rejoinsLater
  rejoinsNow := h.rejoinsNow

/-! ## The events that fail the link (R41, R64, R107, R108, R151) -/

theorem exec_restart_up {s : State} (hr : s.pins.resetAsserted = false) (hu : s.link.state = .up) :
    exec .restart s = .next (s.restartQuiet.fail .storeRestart) :=
  congrArg Host.Outcome.next (State.receive_up .restart hr hu)

theorem State.expireQuiet_running {s : State} (hrun : s.link.quietTimer.isRunning = true) :
    s.expireQuiet = s.fail .quiet := by
  rw [State.expireQuiet, if_pos hrun]

theorem State.expireWrite_of_limit {s : State} (hrun : s.wq.timer.isRunning = true)
    (hlimit : s.settings.retryLimit.toNat ≤ s.wq.replayCount.toNat) : s.expireWrite = s.fail .writeTimeout := by
  rw [State.expireWrite, if_pos hrun, if_neg (Nat.not_lt.mpr hlimit)]

theorem State.expireSync_of_limit {s : State} (hrun : s.sync.timer.isRunning = true)
    (hlimit : s.settings.retryLimit.toNat ≤ s.sync.retries.toNat) : s.expireSync = s.fail .syncTimeout := by
  rw [State.expireSync, if_pos hrun, if_neg (Nat.not_lt.mpr hlimit)]

theorem State.expireResponse_of_limit {s : State} {tag : Fin 4} {w : ReadWork} (hw : (s.reads.entries[tag]).work = some w)
    (hrun : (s.reads.entries[tag]).timer.isRunning = true)
    (hlimit : s.settings.retryLimit.toNat ≤ (s.reads.entries[tag]).retries.toNat) :
    s.expireResponse tag = s.fail .readTimeout := by
  simp only [State.expireResponse, hw, if_pos hrun, if_neg (Nat.not_lt.mpr hlimit)]

/-- Settles O49: each event is the failure with its cause, which `State.failedFromUp_fail` describes. -/
theorem failureEventsTearDown : Obligations.FailureEventsTearDown := by
  intro s hr hu fill _
  have failed (cause : Cause) : State.FailedFromUp cause s (s.fail cause) := State.failedFromUp_fail cause hr fill
  refine ⟨⟨_, exec_restart_up hr hu, ?_⟩, fun hrun => ⟨_, ?_, failed .quiet⟩, fun hrun hlimit => ⟨_, ?_, failed .writeTimeout⟩,
    fun hrun hlimit => ⟨_, ?_, failed .syncTimeout⟩, fun tag hwork hrun hlimit => ⟨_, ?_, failed .readTimeout⟩⟩
  · exact (State.failedFromUp_fail (s := s.restartQuiet) .storeRestart hr fill).of_restartQuiet
  · exact congrArg Host.Outcome.next (State.expireQuiet_running hrun)
  · exact congrArg Host.Outcome.next (State.expireWrite_of_limit hrun hlimit)
  · exact congrArg Host.Outcome.next (State.expireSync_of_limit hrun hlimit)
  · obtain ⟨w, hw⟩ := Option.isSome_iff_exists.mp hwork
    exact congrArg Host.Outcome.next (State.expireResponse_of_limit hw hrun hlimit)

end Sys2Proof.Machine
end

section
/-! SUPPORT. The write queue's laws, step by step: what each change of the queue does to a run of entries (R48) and to the law of
the write entries (R47), and that every operation of the bridge keeps both. -/

namespace Sys2Proof.Machine

/-! ## A run of entries after a change (R48) -/

theorem WriteEntry.isQueued_eq_isNone (e : WriteEntry) : e.isQueued = e.seq?.isNone := by
  unfold WriteEntry.isQueued WriteEntry.seq?
  cases e.state <;> rfl

theorem WriteEntry.isSent_eq_isSome (e : WriteEntry) : e.isSent = e.seq?.isSome := by
  rw [WriteEntry.isSent, WriteEntry.isQueued_eq_isNone, Option.not_isNone]

theorem countP_isSent (l : List WriteEntry) :
    l.countP WriteEntry.isSent = (l.map WriteEntry.seq?).countP Option.isSome := by
  rw [List.countP_map]
  exact List.countP_congr fun e _ => by simp [WriteEntry.isSent_eq_isSome]

theorem forall_isQueued (l : List WriteEntry) :
    (∀ f ∈ l, f.isQueued = true) ↔ ∀ q ∈ l.map WriteEntry.seq?, q.isNone = true := by
  simp [WriteEntry.isQueued_eq_isNone]

/-- A run speaks of the entries' sequence numbers alone. -/
theorem queueRun_of_seqs {nws : Seq} : ∀ {l l' : List WriteEntry},
    l'.map WriteEntry.seq? = l.map WriteEntry.seq? → QueueRun nws l → QueueRun nws l'
  | [], [], _, h => h
  | e :: l, e' :: l', heq, h => by
    have hseqs := heq
    rw [List.map_cons, List.map_cons, List.cons.injEq] at hseqs
    obtain ⟨hseq, htail⟩ := hseqs
    unfold QueueRun at h ⊢
    rw [hseq]
    cases hq : e.seq? with
    | none =>
      rw [hq] at h
      simp only [forall_isQueued] at h ⊢
      rwa [htail]
    | some q =>
      rw [hq] at h
      simp only [countP_isSent] at h ⊢
      rw [heq]
      exact ⟨h.1, queueRun_of_seqs htail h.2⟩

theorem queueRun_of_queued (nws : Seq) : ∀ {l : List WriteEntry}, (∀ f ∈ l, f.isQueued = true) → QueueRun nws l
  | [], _ => trivial
  | e :: l, h => by
    unfold QueueRun
    rw [WriteEntry.seq_of_isQueued (h e List.mem_cons_self)]
    exact fun f hf => h f (List.mem_cons_of_mem e hf)

/-- A QUEUED entry appended leaves a run (R52). -/
theorem queueRun_append_queued {nws : Seq} {e : WriteEntry} (he : e.isQueued = true) :
    ∀ {l : List WriteEntry}, QueueRun nws l → QueueRun nws (l ++ [e])
  | [], _ => queueRun_of_queued nws (by simpa using he)
  | f :: l, h => by
    unfold QueueRun at h
    rw [List.cons_append, QueueRun]
    split at h
    · have hcount : (f :: (l ++ [e])).countP WriteEntry.isSent = (f :: l).countP WriteEntry.isSent := by
        simp [List.countP_cons, WriteEntry.isSent, he]
      rw [hcount]
      exact ⟨h.1, queueRun_append_queued he h.2⟩
    · intro g hg
      rcases List.mem_append.mp hg with hg | hg
      · exact h g hg
      · rwa [List.mem_singleton.mp hg]

/-- The oldest QUEUED entry, sent under NWS, leaves a run that ends before the next NWS (R56). -/
theorem queueRun_send {nws : Seq} {e e' : WriteEntry} {younger : List WriteEntry} (he : e.isQueued = true)
    (he' : e'.seq? = some nws) : ∀ {older : List WriteEntry}, (∀ f ∈ older, f.isSent = true) →
    QueueRun nws (older ++ e :: younger) → QueueRun (nws + 1#8) (older ++ e' :: younger)
  | [], _, h => by
    rw [List.nil_append, QueueRun, WriteEntry.seq_of_isQueued he] at h
    rw [List.nil_append, QueueRun, he']
    have hnone : younger.countP WriteEntry.isSent = 0 :=
      List.countP_eq_zero.mpr fun f hf => by simp [WriteEntry.isSent, h f hf]
    refine ⟨?_, queueRun_of_queued _ h⟩
    rw [List.countP_cons_of_pos (WriteEntry.isSent_of_seq he'), hnone]
  | f :: older, hs, h => by
    obtain ⟨q, hq⟩ := WriteEntry.seq_of_isSent (hs f List.mem_cons_self)
    rw [List.cons_append, QueueRun, hq] at h
    rw [List.cons_append, QueueRun, hq]
    have hcount : (f :: (older ++ e' :: younger)).countP WriteEntry.isSent =
        (f :: (older ++ e :: younger)).countP WriteEntry.isSent + 1 := by
      have hsent := WriteEntry.isSent_of_seq he'
      have hqueued : e.isSent = false := by simp [WriteEntry.isSent, he]
      simp only [List.countP_cons, List.countP_append, hsent, hqueued, if_true, Bool.false_eq_true, if_false]
      omega
    refine ⟨?_, queueRun_send he he' (fun g hg => hs g (List.mem_cons_of_mem f hg)) h.2⟩
    rw [hcount, ofNat_succ, ← BitVec.add_assoc, h.1]

/-! ## What keeps both laws of the queue -/

/-- Both laws of the write queue go from one state to another: that of its shape (R48) and that of its entries (R47). -/
structure State.KeepsQueue (s t : State) : Prop where
  shape : s.QueueLaw → t.QueueLaw
  entries : s.EntryLaw → t.EntryLaw

namespace State.KeepsQueue

theorem refl (s : State) : s.KeepsQueue s := ⟨id, id⟩

theorem trans {s t u : State} (h : s.KeepsQueue t) (h' : t.KeepsQueue u) : s.KeepsQueue u :=
  ⟨h'.shape ∘ h.shape, h'.entries ∘ h.entries⟩

/-- The laws speak of the entries and of NWS alone. -/
theorem of_entries {s t : State} (he : t.wq.entries = s.wq.entries) (hn : t.wq.nws = s.wq.nws) : s.KeepsQueue t := by
  constructor
  · intro h
    rw [State.QueueLaw, he, hn]
    exact h
  · intro h
    rw [State.EntryLaw, he]
    exact h

theorem of_wq {s t : State} (h : t.wq = s.wq) : s.KeepsQueue t := of_entries (by rw [h]) (by rw [h])

theorem of_empty {s t : State} (h : t.wq.entries = []) : s.KeepsQueue t := by
  constructor
  · intro _
    rw [State.QueueLaw, h]
    exact ⟨Nat.zero_le 8, trivial⟩
  · intro _
    rw [State.EntryLaw, h]
    exact entriesLaw_nil

end State.KeepsQueue

/-! ## The changes of the queue -/

/-- A taken write keeps the shape, merged or appended (R51, R52, R53). -/
theorem WriteQueue.take_shape {a : Access} {q q' : WriteQueue} (ht : q.take a = some q')
    (h : q.entries.length ≤ 8 ∧ QueueRun q.nws q.entries) :
    q'.entries.length ≤ 8 ∧ QueueRun q'.nws q'.entries := by
  obtain ⟨hlen, hrun⟩ := h
  have happ : QueueRun q.nws (q.entries ++ [a.entry]) := queueRun_append_queued rfl hrun
  unfold WriteQueue.take at ht
  split at ht
  · rename_i y hy
    have hsplit : q.entries.dropLast ++ [y] = q.entries := List.dropLast_append_getLast? y hy
    split at ht
    · cases ht
      constructor
      · rw [← hsplit, List.length_append] at hlen
        simpa using hlen
      · refine queueRun_of_seqs ?_ hrun
        conv => rhs; rw [← hsplit]
        simp [WriteEntry.seq?]
    · split at ht
      · rename_i hspace
        cases ht
        exact ⟨by simpa using hspace, happ⟩
      · cases ht
  · rename_i hnone
    cases ht
    rw [List.getLast?_eq_none_iff.mp hnone] at happ
    exact ⟨by simp, happ⟩

theorem State.presentWrite_wq (a : Access) (s : State) : (s.presentWrite a).wq = (s.wq.take a).getD s.wq := by
  unfold State.presentWrite
  cases s.wq.take a with
  | none => rfl
  | some q => cases h : a.isPosted <;> simp

theorem State.keepsQueue_presentWrite (a : Access) (s : State) : s.KeepsQueue (s.presentWrite a) := by
  cases htake : s.wq.take a with
  | none => exact .of_wq (by rw [State.presentWrite_wq, htake, Option.getD_none])
  | some q =>
    have hwq : (s.presentWrite a).wq = q := by rw [State.presentWrite_wq, htake, Option.getD_some]
    constructor
    · intro h
      rw [State.QueueLaw, hwq]
      exact WriteQueue.take_shape htake h
    · intro h
      rw [State.EntryLaw, hwq]
      exact WriteQueue.take_entriesLaw h htake

theorem State.keepsQueue_resumeQueueSpace (s : State) : s.KeepsQueue s.resumeQueueSpace := by
  unfold State.resumeQueueSpace
  split
  · split
    · exact State.keepsQueue_presentWrite _ s
    · exact .refl s
  · exact .refl s

theorem State.takeWrite_wq_queued {s : State} {i : Nat} {e : WriteEntry} (hi : s.wq.entries[i]? = some e)
    (he : e.state = .queued) :
    (s.takeWrite i).wq =
      { s.wq with
        entries := s.wq.entries.set i { e with state := .sent s.wq.nws false }
        nws := s.wq.nws + 1#8
        lastAssigned := some s.wq.nws
        timer := if s.wq.entries.any WriteEntry.isSent then s.wq.timer else s.startTimer } := by
  simp only [State.takeWrite, hi, he]
  split <;> rfl

theorem State.takeWrite_wq_sent {s : State} {i : Nat} {e : WriteEntry} {q : Seq} {r : Bool}
    (hi : s.wq.entries[i]? = some e) (he : e.state = .sent q r) :
    (s.takeWrite i).wq = { s.wq with entries := s.wq.entries.set i { e with state := .sent q false } } := by
  simp only [State.takeWrite, hi, he]

/-- The entries ahead of an offered QUEUED entry are SENT: it is offered only when no replay waits, and is the oldest (R56). -/
theorem isSent_of_offered {l : List WriteEntry} {i : Nat} {e : WriteEntry} (ho : writeOffer l = some i)
    (hi : l[i]? = some e) (he : e.state = .queued) : ∀ f ∈ l.take i, f.isSent = true := by
  obtain ⟨hlt, hget⟩ := List.getElem?_eq_some_iff.mp hi
  unfold writeOffer at ho
  split at ho
  · rename_i j hj
    cases ho
    obtain ⟨_, hreplay, _⟩ := List.findIdx?_eq_some_iff_getElem.mp hj
    rw [hget, WriteEntry.isReplay, he] at hreplay
    cases hreplay
  · obtain ⟨_, _, hahead⟩ := List.findIdx?_eq_some_iff_getElem.mp ho
    intro f hf
    obtain ⟨k, hk, rfl⟩ := List.mem_take_iff_getElem.mp hf
    have hnot := hahead k (by omega)
    rw [WriteEntry.isSent]
    simpa using hnot

/-- The entry that the transmitter takes keeps both laws: a first send gets NWS and is the oldest QUEUED entry, a replay keeps
its number (R56). -/
theorem State.keepsQueue_takeWrite {s : State} {i : Nat} (ho : writeOffer s.wq.entries = some i) :
    s.KeepsQueue (s.takeWrite i) := by
  cases hi : s.wq.entries[i]? with
  | none => exact .of_wq (by simp only [State.takeWrite, hi])
  | some e =>
    obtain ⟨hlt, hget⟩ := List.getElem?_eq_some_iff.mp hi
    have hsplit : s.wq.entries = s.wq.entries.take i ++ e :: s.wq.entries.drop (i + 1) := by
      rw [← hget, List.getElem_cons_drop, List.take_append_drop]
    cases he : e.state with
    | queued =>
      have hwq := State.takeWrite_wq_queued hi he
      constructor
      · intro ⟨hlen, hrun⟩
        rw [State.QueueLaw, hwq]
        refine ⟨by simpa using hlen, ?_⟩
        rw [hsplit] at hrun
        have hsent := queueRun_send (e' := { e with state := .sent s.wq.nws false })
          (by rw [WriteEntry.isQueued, he]) rfl (isSent_of_offered ho hi he) hrun
        rw [List.set_eq_take_append_cons_drop, if_pos hlt]
        exact hsent
      · intro h
        rw [State.EntryLaw, hwq]
        exact entriesLaw_offered s.wq.nws h ho hi
    | sent q r =>
      have hwq := State.takeWrite_wq_sent hi he
      constructor
      · intro ⟨hlen, hrun⟩
        rw [State.QueueLaw, hwq]
        refine ⟨by simpa using hlen, queueRun_of_seqs ?_ hrun⟩
        have hseq : WriteEntry.seq? { e with state := .sent q false } = e.seq? := by simp [WriteEntry.seq?, he]
        rw [List.set_eq_take_append_cons_drop, if_pos hlt]
        conv => rhs; rw [hsplit]
        simp [hseq]
      · intro h
        rw [State.EntryLaw, hwq]
        exact entriesLaw_offered q h ho hi

theorem State.keepsQueue_transmit (s : State) : s.KeepsQueue s.transmit := by
  unfold State.transmit
  split
  · exact .refl s
  · split
    · exact .refl s
    · split
      · exact .of_wq (State.takeJoin_wq s)
      · split
        · exact .of_wq (State.takeRead_wq ..)
        · split
          · exact State.keepsQueue_takeWrite ‹_›
          · split
            · exact .of_wq (State.takeSync_wq s)
            · exact .refl s

/-- What keeps the laws before the transmitter's choice keeps them after it (R102). -/
theorem State.KeepsQueue.transmit {s t : State} (h : s.KeepsQueue t) : s.KeepsQueue t.transmit :=
  h.trans (State.keepsQueue_transmit t)

theorem State.removeEntries_wq (k : Nat) (s : State) :
    (s.removeEntries k).wq =
      { s.wq with
        entries := s.wq.entries.drop k
        timer := if (s.wq.entries.drop k).any WriteEntry.isSent then s.startTimer else .stopped
        replayCount := 0#3 } := by
  simp only [State.removeEntries]
  split <;> rfl

theorem State.keepsQueue_removeEntries (k : Nat) (s : State) : s.KeepsQueue (s.removeEntries k) := by
  constructor
  · intro ⟨hlen, hrun⟩
    rw [State.QueueLaw, State.removeEntries_wq]
    refine ⟨?_, queueRun_drop k hrun⟩
    rw [List.length_drop]
    omega
  · intro h
    rw [State.EntryLaw, State.removeEntries_wq]
    exact entriesLaw_sublist h (List.drop_sublist k _)

theorem WriteEntry.flagged_seq (e : WriteEntry) : e.flagged.seq? = e.seq? := by
  unfold WriteEntry.flagged
  cases h : e.state <;> simp [WriteEntry.seq?, h]

theorem State.keepsQueue_replay (s : State) : s.KeepsQueue s.replay := by
  constructor
  · intro ⟨hlen, hrun⟩
    refine ⟨by simpa [State.replay] using hlen, queueRun_of_seqs ?_ hrun⟩
    simp [State.replay, WriteEntry.flagged_seq]
  · exact entriesLaw_flagged

theorem markYoungest_seqs : ∀ l : List WriteEntry, (markYoungest l).map WriteEntry.seq? = l.map WriteEntry.seq?
  | [] => rfl
  | [_] => rfl
  | e :: f :: rest => by
    rw [markYoungest, List.map_cons, markYoungest_seqs (f :: rest)]
    rfl

theorem State.keepsQueue_acceptBarrier (s : State) : s.KeepsQueue s.acceptBarrier := by
  have hseqs := markYoungest_seqs s.wq.entries
  constructor
  · intro ⟨hlen, hrun⟩
    have hlength : (markYoungest s.wq.entries).length = s.wq.entries.length := by
      simpa using congrArg List.length hseqs
    exact ⟨by simpa [hlength] using hlen, queueRun_of_seqs hseqs hrun⟩
  · exact entriesLaw_markYoungest

/-! ## The operations that change the queue -/

theorem State.keepsQueue_teardown (s : State) : s.KeepsQueue s.teardown :=
  .of_empty (by rw [State.teardown_wq, WriteQueue.emptied])

theorem State.keepsQueue_fail (cause : Cause) (s : State) : s.KeepsQueue (s.fail cause) := by
  have hempty : (s.afterFailure cause).wq.entries = [] := by
    simp [State.afterFailure, State.teardown_wq, WriteQueue.emptied]
  rw [State.fail_eq]
  split
  · exact State.KeepsQueue.transmit (.of_empty ((congrArg WriteQueue.entries (State.beginJoin_wq _)).trans hempty))
  · exact State.KeepsQueue.transmit (.of_empty hempty)

/-- An ack's own effects on the entries that it names (R57 to R59, R65), before what waited goes on. -/
def State.retired (k : Nat) (status : Status) (s : State) : State :=
  let reported : State :=
    match (s.wq.entries.take k).getLast? with
    | some e => if refuses status then (s.removeEntries k).refuseWrite e else s.removeEntries k
    | none => s.removeEntries k
  if (s.wq.entries.take k).any (fun e => !e.posted) then reported.endWriter (refuses status) else reported

theorem State.ackEntries_eq (k : Nat) (status : Status) (s : State) :
    s.ackEntries k status = (s.retired k status).resumeQueueSpace.resumeQueueEmpty :=
  rfl

theorem State.retired_wq (k : Nat) (status : Status) (s : State) :
    (s.retired k status).wq = (s.removeEntries k).wq := by
  simp only [State.retired]
  repeat' split
  all_goals simp

theorem State.keepsQueue_ackEntries (k : Nat) (status : Status) (s : State) : s.KeepsQueue (s.ackEntries k status) := by
  have hretired : s.KeepsQueue (s.retired k status) :=
    (State.keepsQueue_removeEntries k s).trans (.of_wq (State.retired_wq k status s))
  rw [State.ackEntries_eq]
  exact (hretired.trans (State.keepsQueue_resumeQueueSpace _)).trans (.of_wq (State.resumeQueueEmpty_wq _))

theorem State.checkTotal_wq (status : Status) (total : BitVec 8) (s : State) :
    (s.checkTotal status total).wq = { s.wq with rt := total } := by
  unfold State.checkTotal
  dsimp only
  split <;> simp

theorem State.keepsQueue_checkTotal (status : Status) (total : BitVec 8) (s : State) :
    s.KeepsQueue (s.checkTotal status total) :=
  .of_entries (by rw [State.checkTotal_wq]) (by rw [State.checkTotal_wq])

theorem State.keepsQueue_takeWriteAck (seq : Seq) (status : Status) (total : BitVec 8) (s : State) :
    s.KeepsQueue (s.takeWriteAck seq status total) := by
  unfold State.takeWriteAck
  dsimp only
  split
  · exact ((State.keepsQueue_ackEntries _ status s).trans (State.keepsQueue_checkTotal status total _)).transmit
  · exact ((State.KeepsQueue.of_wq (State.bump_wq ..)).trans (State.keepsQueue_checkTotal status total _)).transmit

theorem State.keepsQueue_takeResponse (tag : Fin 4) (issue : Issue) (isLine : Bool) (status : Status)
    (returned : ReadWork → Line) (s : State) : s.KeepsQueue (s.takeResponse tag issue isLine status returned) := by
  unfold State.takeResponse
  split
  · exact .of_wq rfl
  · split
    · exact (State.KeepsQueue.of_wq (State.completeRead_wq ..)).transmit
    · exact (State.KeepsQueue.of_wq (State.refuseRead_wq ..)).transmit

/-! ## Arriving frames -/

theorem State.keepsQueue_takeFrame (f : InFrame) (s : State) : s.KeepsQueue (s.takeFrame f) := by
  cases f with
  | welcome first => exact .of_wq rfl
  | lineData tag issue status data => exact State.keepsQueue_takeResponse ..
  | wordData tag issue status data => exact State.keepsQueue_takeResponse ..
  | writeAck seq status total => exact State.keepsQueue_takeWriteAck ..
  | syncAck issue => exact .of_wq (State.takeSyncAck_wq ..)
  | notice seq line => exact .of_wq (State.takeNotice_wq ..)
  | tick next => exact .of_wq (State.takeTick_wq ..)
  | restart => exact State.keepsQueue_fail ..

/-- A WELCOME sets NWS to 0 while JOINING, when the link law leaves the queue empty (R91, R95). -/
theorem State.keepsQueue_takeFrameJoining {s : State} (f : InFrame) (link : s.LinkLaw) (hj : s.link.state = .joining) :
    s.KeepsQueue (s.takeFrameJoining f) := by
  cases f with
  | welcome first =>
    obtain ⟨-, hempty, -⟩ := link (by rw [hj]; decide)
    exact .of_empty hempty
  | lineData | wordData | writeAck | syncAck | notice | tick | restart => exact .of_wq rfl

theorem State.keepsQueue_receive {s : State} (f : InFrame) (link : s.LinkLaw) : s.KeepsQueue (s.receive f) := by
  unfold State.receive
  split
  · exact .refl s
  · split
    · exact .refl s
    · exact .refl s
    · exact State.keepsQueue_takeFrameJoining f link ‹_›
    · exact (State.KeepsQueue.of_wq (State.restartQuiet_wq s)).trans (State.keepsQueue_takeFrame f _)

theorem State.keepsQueue_receiveBytes {s : State} (bytes : List Byte) (link : s.LinkLaw) :
    s.KeepsQueue (s.receiveBytes bytes) := by
  unfold State.receiveBytes
  split
  · exact .refl s
  · split
    · exact .refl s
    · exact .refl s
    all_goals
      split
      · exact .of_wq rfl
      · exact State.keepsQueue_receive _ link

/-! ## Cycles on the local bus -/

theorem State.keepsQueue_apertureRead (c : Cycle) (s : State) : s.KeepsQueue (s.apertureRead c) := by
  unfold State.apertureRead
  split
  · exact .refl s
  · split
    · exact .of_wq (State.handRecord_wq ..)
    · exact (State.KeepsQueue.of_wq (State.startRead_wq ..)).transmit

theorem State.keepsQueue_apertureWrite (c : Cycle) (data : BitVec 32) (s : State) :
    s.KeepsQueue (s.apertureWrite c data) := by
  unfold State.apertureWrite
  split
  · exact .refl s
  · split
    · exact .of_wq (State.handRecord_wq ..)
    · exact (State.keepsQueue_presentWrite _ s).transmit

/-- A DATA write keeps the laws when its effect on the register does. -/
theorem State.keepsQueue_dataWrite {effect : State → State} (h : ∀ s : State, s.KeepsQueue (effect s)) (s : State) :
    s.KeepsQueue (s.dataWrite effect) := by
  cases hheld : s.busHeld with
  | true =>
    rw [State.dataWrite_held effect hheld]
    exact .refl s
  | false =>
    rw [State.dataWrite_eq effect (State.busHeld_iff.mp hheld)]
    exact (h s).trans (.of_wq rfl)

theorem State.indexCycle_wq (c : IndexCycle) (s : State) : (s.indexCycle c).wq = s.wq := by
  unfold State.indexCycle
  split
  · rfl
  · cases c <;> rfl

theorem State.wrongWidth_wq (access : WrongWidth) (s : State) : (s.wrongWidth access).wq = s.wq := by
  unfold State.wrongWidth
  split
  · rfl
  · cases access <;> rfl

theorem State.dataRead_wq (s : State) : s.dataRead.wq = s.wq := by
  unfold State.dataRead State.advanceIndex
  split
  · rfl
  · split <;> rfl

/-! ## The commands of the command register -/

theorem State.keepsQueue_joinCommand (s : State) : s.KeepsQueue s.joinCommand := by
  unfold State.joinCommand
  split
  · exact .of_wq rfl
  · exact .of_wq rfl
  all_goals
    split
    · exact .of_wq rfl
    · exact (State.KeepsQueue.of_wq (State.beginJoin_wq s)).transmit.trans (.of_wq rfl)

/-- The last part of a STOP: the link is DOWN and the status DONE (R96, R173). -/
theorem State.keepsQueue_down (s : State) :
    s.KeepsQueue ({ s with link := { s.link with state := .down } }.setStatus .done) :=
  .of_wq rfl

theorem State.keepsQueue_stopCommand (s : State) : s.KeepsQueue s.stopCommand := by
  unfold State.stopCommand
  split
  · exact (State.keepsQueue_teardown s).trans (State.keepsQueue_down _)
  · exact (State.keepsQueue_teardown s).trans (State.keepsQueue_down _)
  all_goals exact (State.KeepsQueue.of_wq (State.startSweep_wq s)).trans (State.keepsQueue_down _)

theorem State.keepsQueue_syncCommand (s : State) : s.KeepsQueue s.syncCommand := by
  unfold State.syncCommand
  split
  · split
    · exact .of_wq rfl
    · exact .of_wq rfl
    all_goals exact (State.keepsQueue_acceptBarrier s).transmit.trans (.of_wq rfl)
  all_goals exact .of_wq rfl

theorem State.sweepCommand_wq (s : State) : s.sweepCommand.wq = s.wq := by
  rw [State.sweepCommand, State.setStatus_wq, State.startSweep_wq]

theorem State.invalidateCommand_wq (s : State) : s.invalidateCommand.wq = s.wq := by
  rw [State.invalidateCommand, State.setStatus_wq, State.dropLine_wq]

theorem State.popCommand_wq (s : State) : s.popCommand.wq = s.wq := by
  unfold State.popCommand
  split <;> rfl

theorem State.enableCommand_wq (s : State) : s.enableCommand.wq = s.wq := by
  simp only [State.enableCommand]
  split <;> rfl

theorem State.keepsQueue_commandRegister (v : Half) (s : State) : s.KeepsQueue (s.commandRegister v) := by
  unfold State.commandRegister
  split
  · exact State.keepsQueue_joinCommand s
  · exact State.keepsQueue_stopCommand s
  · exact .of_empty rfl
  · exact .of_wq (State.sweepCommand_wq s)
  · exact State.keepsQueue_syncCommand s
  · exact .of_wq (State.popCommand_wq s)
  · exact .of_wq (State.invalidateCommand_wq s)
  · exact .of_wq (State.enableCommand_wq s)
  all_goals exact .of_wq rfl

@[simp] theorem State.writeWindowField_wq (field : WindowField) (v : Half) (s : State) :
    (s.writeWindowField field v).wq = s.wq := by
  simp only [State.writeWindowField]
  split <;> rfl

/-- Only the command register reaches the write queue. -/
theorem State.writeRegister_wq {i : BitVec 7} (v : Half) (s : State) (hi : i.toNat ≠ 0x03) :
    (s.writeRegister i v).wq = s.wq := by
  unfold State.writeRegister
  split
  · contradiction
  all_goals simp [State.writeTimeouts, State.writeQuietLimit, State.writeModes, State.writeHold, State.writeEnables,
    State.writeFlags]

theorem State.keepsQueue_writeRegister (i : BitVec 7) (v : Half) (s : State) : s.KeepsQueue (s.writeRegister i v) := by
  by_cases hi : i.toNat = 0x03
  · rw [show s.writeRegister i v = s.commandRegister v by simp only [State.writeRegister, hi]]
    exact State.keepsQueue_commandRegister v s
  · exact .of_wq (State.writeRegister_wq v s hi)

/-! ## The events of the part itself -/

theorem State.keepsQueue_endTransmission (s : State) : s.KeepsQueue s.endTransmission := by
  unfold State.endTransmission
  split
  · exact State.KeepsQueue.transmit (.of_wq rfl)
  · exact .refl s

theorem State.keepsQueue_expireResponse (tag : Fin 4) (s : State) : s.KeepsQueue (s.expireResponse tag) := by
  unfold State.expireResponse
  split
  · split
    · split
      · exact (State.KeepsQueue.of_wq (State.resendRead_wq ..)).transmit
      · exact State.keepsQueue_fail ..
    · exact .refl s
  · exact .refl s

theorem State.keepsQueue_expireWrite (s : State) : s.KeepsQueue s.expireWrite := by
  unfold State.expireWrite
  split
  · split
    · exact (State.keepsQueue_replay s).transmit
    · exact State.keepsQueue_fail ..
  · exact .refl s

theorem State.keepsQueue_expireSync (s : State) : s.KeepsQueue s.expireSync := by
  unfold State.expireSync
  split
  · split
    · exact (State.KeepsQueue.of_wq (State.resendSync_wq s)).transmit
    · exact State.keepsQueue_fail ..
  · exact .refl s

theorem State.failJoin_wq (s : State) : s.failJoin.wq = s.wq := by
  simp [State.failJoin]

theorem State.keepsQueue_expireJoin (s : State) : s.KeepsQueue s.expireJoin := by
  unfold State.expireJoin
  split
  · split
    · exact (State.KeepsQueue.of_wq (State.resendJoin_wq s)).transmit
    · exact .of_wq (State.failJoin_wq s)
  · exact .refl s

theorem State.keepsQueue_expireQuiet (s : State) : s.KeepsQueue s.expireQuiet := by
  unfold State.expireQuiet
  split
  · exact State.keepsQueue_fail ..
  · exact .refl s

theorem State.stepSweep_wq (s : State) : s.stepSweep.wq = s.wq := by
  unfold State.stepSweep
  split
  · dsimp only
    split <;> rfl
  · rfl

theorem State.deassertReset_wq (s : State) : s.deassertReset.wq = s.wq := by
  unfold State.deassertReset
  split <;> rfl

/-! ## Every command (R48, R47) -/

/-- Every command's next state keeps both laws of the queue; a WELCOME leans on the link law. -/
theorem State.keepsQueue_exec {s : State} (link : s.LinkLaw) :
    ∀ i : Instr, ∃ t, exec i s = .next t ∧ s.KeepsQueue t
  | .resetInput _ => ⟨_, rfl, .of_empty rfl⟩
  | .resetDeassertion => ⟨_, rfl, .of_wq (State.deassertReset_wq s)⟩
  | .apertureRead c => ⟨_, rfl, State.keepsQueue_apertureRead c s⟩
  | .apertureWrite c data => ⟨_, rfl, State.keepsQueue_apertureWrite c data s⟩
  | .readResumesFreeEntry => ⟨_, rfl, State.KeepsQueue.transmit (.of_wq (State.resumeFreeEntry_wq s))⟩
  | .writeResumesQueueSpace => ⟨_, rfl, (State.keepsQueue_resumeQueueSpace s).transmit⟩
  | .orderedReadDispatch => ⟨_, rfl, State.KeepsQueue.transmit (.of_wq (State.resumeQueueEmpty_wq s))⟩
  | .indexWrite c => ⟨_, rfl, .of_wq (State.indexCycle_wq c s)⟩
  | .dataWrongWidth access => ⟨_, rfl, .of_wq (State.wrongWidth_wq access s)⟩
  | .registerWrite v => ⟨_, rfl, State.keepsQueue_dataWrite (State.keepsQueue_writeRegister s.bus.index v) s⟩
  | .windowFieldWrite field v =>
    ⟨_, rfl, State.keepsQueue_dataWrite (fun t => .of_wq (State.writeWindowField_wq field v t)) s⟩
  | .interruptFlagClear v => ⟨_, rfl, State.keepsQueue_dataWrite (effect := State.writeFlags v) (fun _ => .of_wq rfl) s⟩
  | .interruptEnableWrite v => ⟨_, rfl, State.keepsQueue_dataWrite (effect := State.writeEnables v) (fun _ => .of_wq rfl) s⟩
  | .join => ⟨_, rfl, State.keepsQueue_dataWrite State.keepsQueue_joinCommand s⟩
  | .stop => ⟨_, rfl, State.keepsQueue_dataWrite State.keepsQueue_stopCommand s⟩
  | .softReset => ⟨_, rfl, State.keepsQueue_dataWrite (effect := State.softResetCommand) (fun _ => .of_empty rfl) s⟩
  | .sweep => ⟨_, rfl, State.keepsQueue_dataWrite (fun t => .of_wq (State.sweepCommand_wq t)) s⟩
  | .sync => ⟨_, rfl, State.keepsQueue_dataWrite State.keepsQueue_syncCommand s⟩
  | .popRecord => ⟨_, rfl, State.keepsQueue_dataWrite (fun t => .of_wq (State.popCommand_wq t)) s⟩
  | .invalidateLine => ⟨_, rfl, State.keepsQueue_dataWrite (fun t => .of_wq (State.invalidateCommand_wq t)) s⟩
  | .enableWindow => ⟨_, rfl, State.keepsQueue_dataWrite (fun t => .of_wq (State.enableCommand_wq t)) s⟩
  | .disableWindow => ⟨_, rfl, State.keepsQueue_dataWrite (effect := State.disableCommand) (fun _ => .of_wq rfl) s⟩
  | .clearCounters => ⟨_, rfl, State.keepsQueue_dataWrite (effect := State.clearCountersCommand) (fun _ => .of_wq rfl) s⟩
  | .clearOverflow => ⟨_, rfl, State.keepsQueue_dataWrite (effect := State.clearOverflowCommand) (fun _ => .of_wq rfl) s⟩
  | .unknownCommand v => ⟨_, rfl, State.keepsQueue_dataWrite (State.keepsQueue_commandRegister v) s⟩
  | .welcome first => ⟨_, rfl, State.keepsQueue_receive (.welcome first) link⟩
  | .lineData tag issue status data => ⟨_, rfl, State.keepsQueue_receive (.lineData tag issue status data) link⟩
  | .wordData tag issue status data => ⟨_, rfl, State.keepsQueue_receive (.wordData tag issue status data) link⟩
  | .writeAck seq status total => ⟨_, rfl, State.keepsQueue_receive (.writeAck seq status total) link⟩
  | .syncAck issue => ⟨_, rfl, State.keepsQueue_receive (.syncAck issue) link⟩
  | .notice seq line => ⟨_, rfl, State.keepsQueue_receive (.notice seq line) link⟩
  | .tick next => ⟨_, rfl, State.keepsQueue_receive (.tick next) link⟩
  | .restart => ⟨_, rfl, State.keepsQueue_receive .restart link⟩
  | .corruptFrame bytes => ⟨_, rfl, State.keepsQueue_receiveBytes bytes link⟩
  | .frameWhileDown bytes => ⟨_, rfl, State.keepsQueue_receiveBytes bytes link⟩
  | .transmissionEnd => ⟨_, rfl, State.keepsQueue_endTransmission s⟩
  | .responseTimerExpiry tag => ⟨_, rfl, State.keepsQueue_expireResponse tag s⟩
  | .writeTimerExpiry => ⟨_, rfl, State.keepsQueue_expireWrite s⟩
  | .syncTimerExpiry => ⟨_, rfl, State.keepsQueue_expireSync s⟩
  | .joinTimerExpiry => ⟨_, rfl, State.keepsQueue_expireJoin s⟩
  | .quietTimerExpiry => ⟨_, rfl, State.keepsQueue_expireQuiet s⟩
  | .sweepStep => ⟨_, rfl, .of_wq (State.stepSweep_wq s)⟩
  | .dataRead => ⟨_, rfl, .of_wq (State.dataRead_wq s)⟩

/-- Settles O10: an idle step changes nothing, and every command keeps both laws. -/
theorem queueLawKept : Obligations.QueueLawKept := by
  intro s t queue link hstep
  unfold step at hstep
  split at hstep
  · cases hstep
    exact ⟨queue, id⟩
  · rename_i c rest _
    obtain ⟨u, hu, keeps⟩ := State.keepsQueue_exec (s := { s with pending := rest }) link c
    cases hu.symm.trans hstep
    exact ⟨keeps.shape queue, keeps.entries⟩

end Sys2Proof.Machine
end

section
/-! SUPPORT. A WRITE_ACK: the refusal total (R60), the entries that leave when it names one (R57 to R59, R65), and what waited
and goes on at the same event (R53, R58). -/

namespace Sys2Proof.Machine

variable {s : State}

/-! ## The refusal total (R60) -/

theorem refuses_eq (status : Status) : refuses status = decide (status = .noMemory ∨ status = .prot) := by
  cases status <;> rfl

theorem WriteQueue.expectedTotal_eq (status : Status) (q : WriteQueue) :
    q.expectedTotal status = BitVec.ofNat 8 (q.rt.toNat + if refuses status then 1 else 0) := by
  unfold WriteQueue.expectedTotal
  split
  · exact (ofNat_toNat_succ q.rt).symm
  · rw [Nat.add_zero, BitVec.ofNat_toNat, BitVec.setWidth_eq]

theorem State.checkTotal_eq (status : Status) (total : BitVec 8) (s : State) :
    s.checkTotal status total =
      if total = BitVec.ofNat 8 (s.wq.rt.toNat + if refuses status then 1 else 0) then
        { s with wq := { s.wq with rt := total } }
      else
        { s with wq := { s.wq with rt := total } }.handRecord
          ⟨.writeRefusedTotal, total - BitVec.ofNat 8 (s.wq.rt.toNat + if refuses status then 1 else 0)⟩ := by
  rw [← WriteQueue.expectedTotal_eq]
  rfl

/-! ## An ack that names no entry (R57) -/

theorem exec_writeAck_up (seq : Seq) (status : Status) (total : BitVec 8) (hr : s.pins.resetAsserted = false)
    (hu : s.link.state = .up) :
    exec (.writeAck seq status total) s = .next (s.restartQuiet.takeWriteAck seq status total) :=
  congrArg Host.Outcome.next (State.receive_up (.writeAck seq status total) hr hu)

theorem State.takeWriteAck_stale {seq : Seq} (status : Status) (total : BitVec 8) (h : s.wq.named seq = none) :
    s.takeWriteAck seq status total = ((s.bump .staleFrames).checkTotal status total).transmit := by
  simp only [State.takeWriteAck, h]

theorem State.takeWriteAck_named {seq : Seq} {k : Nat} (status : Status) (total : BitVec 8)
    (h : s.wq.named seq = some k) :
    s.takeWriteAck seq status total = ((s.ackEntries k status).checkTotal status total).transmit := by
  simp only [State.takeWriteAck, h]

/-- What offers no frame that was not offered before leaves the transmitter at rest (R102). -/
theorem State.transmit_of_sameOffer {t : State} (law : s.TransmitterLaw) (htx : t.link.tx = s.link.tx)
    (hjoin : t.link.joinPending = s.link.joinPending) (hsend : t.reads.sendList = s.reads.sendList)
    (hentries : t.wq.entries = s.wq.entries) (hsync : t.sync = s.sync) : t.transmit = t := by
  apply State.transmit_of_noOffer
  simp only [State.Offered, htx, hjoin, hsend, hentries, hsync]
  exact law

/-- Settles O44: in a lawful queue a number that no entry has names none, and the settled total offers no frame. -/
theorem staleWriteAckOnlySettlesTheTotal : Obligations.StaleWriteAckOnlySettlesTheTotal := by
  intro seq status total s hr hu queue law hnone
  have hstale : s.restartQuiet.wq.named seq = none := WriteQueue.named_none queue.2 hnone
  rw [exec_writeAck_up seq status total hr hu, State.takeWriteAck_stale status total hstale,
    State.transmit_of_sameOffer law (by simp) (by simp) (by simp) (by simp [State.checkTotal_wq]) (by simp),
    State.checkTotal_eq, refuses_eq]
  simp only [decide_eq_true_eq]
  rfl

/-! ## An ack that names an entry (R57 to R59, R65) -/

theorem take_drop_named (gone : List WriteEntry) (named : WriteEntry) (rest : List WriteEntry) :
    (gone ++ named :: rest).take (gone.length + 1) = gone ++ [named] ∧
      (gone ++ named :: rest).drop (gone.length + 1) = rest := by
  simp [List.take_append, List.drop_append]

theorem State.removeEntries_split {gone rest : List WriteEntry} {named : WriteEntry}
    (h : s.wq.entries = gone ++ named :: rest) :
    s.removeEntries (gone.length + 1) =
      { s with
        wq := { s.wq with
          entries := rest
          timer := if rest.any WriteEntry.isSent then s.startTimer else .stopped
          replayCount := 0#3 }
        sync := if (gone ++ [named]).any WriteEntry.mark then { s.sync with mark := .gone } else s.sync } := by
  obtain ⟨htake, hdrop⟩ := take_drop_named gone named rest
  simp only [State.removeEntries, h, htake, hdrop]
  split <;> rfl

/-- What an ack does to the named entry and to the writer of a removed one (R59, R65), from the state that the removal and the
refusal's report leave. -/
theorem State.retired_split {gone rest : List WriteEntry} {named : WriteEntry} {reported : State} (status : Status)
    (h : s.wq.entries = gone ++ named :: rest)
    (hreported : (if refuses status then (s.removeEntries (gone.length + 1)).refuseWrite named
      else s.removeEntries (gone.length + 1)) = reported) :
    s.retired (gone.length + 1) status =
      match s.bus.access with
      | some a =>
        if a.wait = .entryRemoved ∧ ((gone ++ [named]).any fun e => !e.posted) = true then
          { reported with bus := s.bus.afterWrite (refuses status && s.bus.berrEn) }
        else reported
      | none => reported := by
  have hbus : reported.bus = s.bus := by
    rw [← hreported]
    split <;> simp
  obtain ⟨htake, -⟩ := take_drop_named gone named rest
  simp only [State.retired, h, htake, List.getLast?_concat, hreported, State.endWriter, hbus]
  cases s.bus.access with
  | none => exact ite_self reported
  | some a =>
    by_cases hremoved : ((gone ++ [named]).any fun e => !e.posted) = true
    · simp only [hremoved, if_true, and_true, State.endWrite, BusInterface.afterWrite, hbus]
    · simp only [hremoved, if_false, and_false, Bool.false_eq_true]

/-! ## What waited goes on (R53, R58) -/

theorem WriteQueue.take_rt {a : Access} {q q' : WriteQueue} (h : q.take a = some q') : q'.rt = q.rt := by
  unfold WriteQueue.take at h
  split at h
  · split at h
    · cases h
      rfl
    · split at h
      · cases h
        rfl
      · cases h
  · cases h
    rfl

theorem State.presentWrite_rt (a : Access) (s : State) : (s.presentWrite a).wq.rt = s.wq.rt := by
  rw [State.presentWrite_wq]
  cases h : s.wq.take a with
  | none => rfl
  | some q => exact WriteQueue.take_rt h

/-- After a write is presented no access waits for an empty queue (R53, R65). -/
theorem State.presentWrite_wait {a b : Access} (h : (s.presentWrite a).bus.access = some b) : b.wait ≠ .queueEmpty := by
  unfold State.presentWrite at h
  split at h
  · dsimp only at h
    split at h
    · cases h
    · cases h
      exact Wait.noConfusion
  · cases h
    exact Wait.noConfusion

/-- With space in the queue what waited goes on: a write is presented, a read is dispatched if the queue is empty. -/
theorem State.resume_of_space (hspace : s.wq.entries.length < 8) :
    s.resumeQueueSpace.resumeQueueEmpty =
      match s.bus.access with
      | some a =>
        if a.wait = .queueSpace then s.presentWrite a
        else if a.wait = .queueEmpty ∧ s.wq.entries = [] then s.dispatchRead true a
        else s
      | none => s := by
  cases ha : s.bus.access with
  | none => rw [State.resumeQueueSpace_idle (by simp [ha]), State.resumeQueueEmpty_idle (by simp [ha])]
  | some a =>
    dsimp only
    split
    · rename_i hwait
      rw [State.resumeQueueSpace_waiting ha hwait hspace]
      exact State.resumeQueueEmpty_idle fun b hb => State.presentWrite_wait hb
    · rename_i hwait
      rw [State.resumeQueueSpace_idle (by simpa [ha] using hwait)]
      simp [State.resumeQueueEmpty, ha]

theorem State.resume_rt (s : State) : s.resumeQueueSpace.resumeQueueEmpty.wq.rt = s.wq.rt := by
  rw [State.resumeQueueEmpty_wq]
  unfold State.resumeQueueSpace
  split
  · split
    · exact State.presentWrite_rt _ s
    · rfl
  · rfl

/-- Settles O43: the named entry stands as deep in the queue as its number says, so exactly it and the older ones leave, and
there is space for what waited. -/
theorem writeAckRetiresEntries : Obligations.WriteAckRetiresEntries := by
  intro seq status total s gone named rest hr hu queue hentries hnamed
  have hack : s.restartQuiet.wq.named seq = some (gone.length + 1) :=
    WriteQueue.named_of_sent queue.1 queue.2 hentries (by rw [WriteEntry.seq?, hnamed])
  have hspace : rest.length < 8 := by
    have hlength := queue.1
    rw [hentries, List.length_append, List.length_cons] at hlength
    omega
  rw [exec_writeAck_up seq status total hr hu, State.takeWriteAck_named status total hack, State.ackEntries_eq]
  refine congrArg (fun t => Host.Outcome.next (State.transmit t)) ?_
  -- the statement's own names; the unnamed ones are the blocks that its updates replace
  extract_lets _ _ _ removed refused reported ended resumed expected _ settled
  have hremoved : s.restartQuiet.removeEntries (gone.length + 1) = removed := State.removeEntries_split hentries
  have hrefused : refuses status = refused := refuses_eq status
  have hended : s.restartQuiet.retired (gone.length + 1) status = ended := by
    have hretired := State.retired_split (s := s.restartQuiet) (reported := reported) status hentries
      (by rw [hremoved, hrefused]; rfl)
    rw [hrefused] at hretired
    exact hretired
  have hwq : ended.wq = removed.wq := by rw [← hended, State.retired_wq, hremoved]
  have hresumed : ended.resumeQueueSpace.resumeQueueEmpty = resumed := by
    have hresume := State.resume_of_space (s := ended) (by rw [hwq]; exact hspace)
    rw [hwq] at hresume
    exact hresume
  have hrt : resumed.wq.rt = s.wq.rt := by rw [← hresumed, State.resume_rt, hwq]
  rw [hended, hresumed, State.checkTotal_eq, hrt, hrefused]

end Sys2Proof.Machine
end

section
/-! SUPPORT. A write presented in the aperture: the checks that it passes (R127), and its three ways into the queue: merged
(R51), appended (R52), or left waiting on space (R53). -/

namespace Sys2Proof.Machine

variable {s : State}

/-! ## The checks (R127) -/

/-- An access that passes the checks is the one its window's match fills (R120, R126). -/
theorem State.checkAccess_of_passes {c : Cycle} {offset : Offset} {size : Size} {i : Fin 8} {direction : Direction}
    (hc : presented c = ⟨offset, some size⟩) (h : s.Passes offset size (direction != .read) i) :
    s.checkAccess c direction = .ok (s.accessOf offset size direction i .entryDone) := by
  have hwritable : (direction != .read && (s.windows[i]).attrs.readOnly) = false := by
    cases hd : direction != .read with
    | false => rfl
    | true => exact h.writable hd
  simp only [State.checkAccess, hc, aligned, h.aligned, beq_self_eq_true, if_true, h.up, State.matchWindow_of_passes h,
    hwritable, Bool.false_eq_true, if_false]
  rfl

theorem onesOf_eq (size : Size) : onesOf size = BitVec.ofNat 32 (2 ^ (8 * sizeBytes size) - 1) := by
  cases size <;> rfl

theorem writeDirection_of_presented {c : Cycle} {offset : Offset} {size : Size} (data : BitVec 32)
    (hc : presented c = ⟨offset, some size⟩) :
    writeDirection c data = .write (data &&& BitVec.ofNat 32 (2 ^ (8 * sizeBytes size) - 1)) := by
  simp only [writeDirection, hc, keepBytes, onesOf_eq]

/-- What a write waits on is set by the path it takes, so the wait it comes with plays no part. -/
theorem State.presentWrite_of_wait (a : Access) (wait : Wait) (s : State) :
    s.presentWrite { a with wait := wait } = s.presentWrite a :=
  rfl

/-- A write cycle that passes the checks is presented to the queue (R138), whatever wait its access is written with. -/
theorem exec_apertureWrite_of_passes {c : Cycle} {data : BitVec 32} {offset : Offset} {size : Size} {i : Fin 8} (wait : Wait)
    (hcan : s.CanCycle) (hc : presented c = ⟨offset, some size⟩) (h : s.Passes offset size true i) :
    exec (.apertureWrite c data) s =
      .next (s.presentWrite (s.accessOf offset size
        (.write (data &&& BitVec.ofNat 32 (2 ^ (8 * sizeBytes size) - 1))) i wait)).transmit := by
  refine congrArg Host.Outcome.next ?_
  rw [State.apertureWrite, State.busHeld_of_canCycle hcan, writeDirection_of_presented data hc,
    State.checkAccess_of_passes hc h]
  rfl

/-! ## Merged or waiting (R51, R53) -/

/-- A write merges into the youngest entry, when that takes it (R51). -/
theorem WriteQueue.take_merge {q : WriteQueue} {a : Access} {rest : List WriteEntry} {y : WriteEntry}
    (hentries : q.entries = rest ++ [y]) (hy : y.Takes a) :
    q.take a = some { q with entries := rest ++ [{ y with bytes := mergeBytes y.bytes a.bytes }] } := by
  simp only [WriteQueue.take, hentries, List.getLast?_concat, List.dropLast_concat,
    (WriteEntry.accepts_iff y a).mpr hy, if_true]

/-- A write that the youngest of eight entries does not take waits for space (R53). -/
theorem WriteQueue.take_full {q : WriteQueue} {a : Access} (hfull : 8 ≤ q.entries.length)
    (hyoungest : ∀ y, q.entries.getLast? = some y → ¬ y.Takes a) : q.take a = none := by
  unfold WriteQueue.take
  split
  · rename_i y hy
    rw [if_neg (by rw [WriteEntry.accepts_iff]; exact hyoungest y hy), if_neg (Nat.not_lt.mpr hfull)]
  · rename_i hnone
    rw [List.getLast?_eq_none_iff.mp hnone] at hfull
    simp at hfull

/-- A write that merges is posted: it ends, and the directory sees it (R51, R138). -/
theorem State.presentWrite_merge {a : Access} {data : BitVec 32} {rest : List WriteEntry} {y : WriteEntry}
    (hdata : a.direction = .write data) (hentries : s.wq.entries = rest ++ [y]) (hy : y.Takes a) :
    s.presentWrite a =
      { s with
        wq := { s.wq with entries :=
          rest ++ [{ y with bytes := mergeBytes y.bytes (placeBytes (byteOffset a.remote) a.size data) }] }
        bus := s.bus.afterWrite false }.directorySeesWrite a.attrs.cacheable (lineOf a.remote)
          (placeBytes (byteOffset a.remote) a.size data) := by
  have hbytes : a.bytes = placeBytes (byteOffset a.remote) a.size data := by simp [Access.bytes, Access.data, hdata]
  have hposted : a.isPosted = true := by
    obtain ⟨-, -, -, -, hposted, hordered⟩ := hy
    simp [Access.isPosted, hposted, hordered]
  unfold State.presentWrite
  rw [WriteQueue.take_merge hentries hy, hbytes]
  simp only [hposted, if_true]
  apply State.ext <;> simp [BusInterface.afterWrite]
  exact State.directorySeesWrite_dir_congr _ _ _ rfl rfl

theorem State.presentWrite_full {a : Access} (hfull : 8 ≤ s.wq.entries.length)
    (hyoungest : ∀ y, s.wq.entries.getLast? = some y → ¬ y.Takes a) :
    s.presentWrite a = s.setAccess { a with wait := .queueSpace } := by
  simp only [State.presentWrite, WriteQueue.take_full hfull hyoungest]

/-- Settles O58: the youngest entry and the space in the queue decide among the three. -/
theorem writeIsMergedAppendedOrWaits : Obligations.WriteIsMergedAppendedOrWaits := by
  rintro c data kept offset size i a s hcan hc hpasses rfl rfl
  rw [exec_apertureWrite_of_passes .queueSpace hcan hc hpasses]
  refine ⟨fun rest y hentries hy => ?_, fun hyoungest => ⟨fun hspace => ?_, fun hfull law => ?_⟩⟩
  · rw [State.presentWrite_merge rfl hentries hy]
    rfl
  · rw [State.presentWrite_append rfl hspace hyoungest]
    rfl
  · rw [State.presentWrite_full hfull hyoungest, State.transmit_of_same law]
    all_goals rfl

end Sys2Proof.Machine
end

section
/-! SUPPORT. Notices and sweeps: what the notice checker makes of a frame by its number, which ways a sweep start releases and
in what order, and what a sweep step clears. -/

namespace Sys2Proof.Vec

theorem map_eq_vectorMap {α β : Type} {n : Nat} (f : α → β) (v : Vector α n) : map f v = v.map f :=
  Vector.ext fun k hk => by simp

end Sys2Proof.Vec

namespace Sys2Proof.Machine

variable {s : State}

/-! ## The notice checker (R71) -/

theorem exec_notice_up (seq : Seq) (line : LineAddr) (hr : s.pins.resetAsserted = false) (hu : s.link.state = .up) :
    exec (.notice seq line) s = .next (s.restartQuiet.takeNotice seq line) :=
  congrArg Host.Outcome.next (State.receive_up (.notice seq line) hr hu)

theorem exec_tick_up (next : Seq) (hr : s.pins.resetAsserted = false) (hu : s.link.state = .up) :
    exec (.tick next) s = .next (s.restartQuiet.takeTick next) :=
  congrArg Host.Outcome.next (State.receive_up (.tick next) hr hu)

theorem State.takeTick_expected (s : State) : s.takeTick s.notices.expected = s :=
  if_pos rfl

/-- A gap before a TICK (R75). -/
theorem State.takeTick_gap {next : Seq} (h : next ≠ s.notices.expected) :
    s.takeTick next =
      { (s.handRecord ⟨.noticeGap s.notices.expected next, 1#8⟩).startSweep with notices := { expected := next } } :=
  if_neg h

/-- A gap before a NOTICE (R74). -/
theorem State.takeNotice_gap {seq : Seq} (line : LineAddr) (h : seq ≠ s.notices.expected) :
    s.takeNotice seq line =
      { (s.handRecord ⟨.noticeGap s.notices.expected seq, 1#8⟩).startSweep with notices := { expected := seq + 1#8 } } :=
  if_neg h

/-- The state with the expected sequence incremented (R71). -/
def State.withNextExpected (s : State) : State :=
  { s with notices := { expected := s.notices.expected + 1#8 } }

/-- A matching NOTICE of a line that no way holds (R72). -/
theorem State.takeNotice_of_misses {line : LineAddr} (h : s.dir.Misses line) :
    s.takeNotice s.notices.expected line = s.withNextExpected := by
  rw [State.takeNotice, if_pos rfl, Directory.probe_eq_false.mpr h]
  rfl

/-- A matching NOTICE of a line that a way holds (R72). -/
theorem State.takeNotice_of_tag {line : LineAddr} {w : Fin 4} (unique : s.UniqueLaw)
    (h : ((s.dir.get (setOf line)).ways[w]).tag? = some (tagOf line)) :
    s.takeNotice s.notices.expected line = (s.withNextExpected.dropLine line).bump .noticesApplied := by
  have hprobe : s.dir.probe line = true := by rw [Directory.probe, State.find_of_tag unique h, Option.isSome_some]
  rw [State.takeNotice, if_pos rfl, if_pos hprobe]
  rfl

/-- Settles O47: a matching TICK passes the notice checker as it is, so the receiver's own restart is all that is left. -/
theorem matchingTickChangesNothing : Obligations.MatchingTickChangesNothing := by
  intro s hr hu
  rw [exec_tick_up _ hr hu]
  exact congrArg Host.Outcome.next s.restartQuiet.takeTick_expected

/-- Settles O48: the number is not the expected one, so NOTICE and TICK take the gap's branch and differ in the number set. -/
theorem gapRecordsAndStartsASweep : Obligations.GapRecordsAndStartsASweep := by
  intro received s hr hu hgap
  refine ⟨fun a => ?_, ?_⟩
  · rw [exec_notice_up received a hr hu, State.takeNotice_gap (s := s.restartQuiet) a hgap, ofNat_toNat_succ]
    rfl
  · rw [exec_tick_up received hr hu, State.takeTick_gap (s := s.restartQuiet) hgap]
    rfl

/-- A matching NOTICE arrives for a line that a way holds: what is left is the drop of the line (R72, R106). -/
theorem exec_notice_of_tag {a : LineAddr} {w : Fin 4} (hr : s.pins.resetAsserted = false) (hu : s.link.state = .up)
    (unique : s.UniqueLaw) (h : ((s.dir.get (setOf a)).ways[w]).tag? = some (tagOf a)) :
    exec (.notice s.notices.expected a) s =
      .next ((s.restartQuiet.withNextExpected.dropLine a).bump .noticesApplied) :=
  (exec_notice_up s.notices.expected a hr hu).trans
    (congrArg Host.Outcome.next (State.takeNotice_of_tag (s := s.restartQuiet) unique h))

/-- Settles O46: by what the line's set holds, the probe fails or the line's one way is dropped (R13, R14). -/
theorem matchingNoticeDropsItsLine : Obligations.MatchingNoticeDropsItsLine := by
  intro a s hr hu unique
  rw [ofNat_toNat_succ]
  refine ⟨fun hmisses => ?_, fun w data hway => ?_, fun w ref hway => ?_⟩
  · rw [exec_notice_up s.notices.expected a hr hu]
    exact congrArg Host.Outcome.next (State.takeNotice_of_misses (s := s.restartQuiet) hmisses)
  · rw [exec_notice_of_tag hr hu unique (w := w) (by rw [hway, Way.tag?]),
      State.dropLine_of_valid (s := s.restartQuiet.withNextExpected) unique hway]
    rfl
  · rw [exec_notice_of_tag hr hu unique (w := w) (by rw [hway, Way.tag?]),
      State.dropLine_of_filling (s := s.restartQuiet.withNextExpected) unique hway]
    rfl

/-! ## The ways a sweep start releases (R81) -/

theorem insertByRank_perm (rank : Fin 4 → Nat) (w : Fin 4) : ∀ l : List (Fin 4), (insertByRank rank w l).Perm (w :: l)
  | [] => .refl _
  | v :: vs => by
    rw [insertByRank]
    split
    · exact ((insertByRank_perm rank w vs).cons v).trans (.swap w v vs)
    · exact .refl _

/-- Whatever the ranks, the ways released are the FILLING ways, each once (log 11). -/
theorem CacheSet.fillingByRank_perm (rank : Fin 4 → Nat) (c : CacheSet) :
    (c.fillingByRank rank).Perm ((List.finRange 4).filter fun w => (c.ways[w]).isFilling) := by
  unfold CacheSet.fillingByRank
  generalize (List.finRange 4).filter (fun w => (c.ways[w]).isFilling) = ws
  induction ws with
  | nil => exact .refl _
  | cons w ws ih => exact (insertByRank_perm rank w _).trans (ih.cons w)

theorem CacheSet.mem_fillingByRank {rank : Fin 4 → Nat} {c : CacheSet} {w : Fin 4} :
    w ∈ c.fillingByRank rank ↔ (c.ways[w]).isFilling = true := by
  rw [(c.fillingByRank_perm rank).mem_iff, List.mem_filter, and_iff_right (List.mem_finRange w)]

theorem CacheSet.drops_releaseAll (c : CacheSet) (rank : Fin 4 → Nat) : c.Drops (c.releaseAll rank) :=
  ⟨c.fillingByRank rank, (c.fillingByRank_perm rank).nodup_iff.mpr ((List.nodup_finRange 4).filter _),
    fun _ => CacheSet.mem_fillingByRank.mp, rfl⟩

theorem CacheSet.releaseAll_noFilling (c : CacheSet) (rank : Fin 4 → Nat) (v : Fin 4) :
    (((c.releaseAll rank).ways)[v]).isFilling = false := by
  rw [show c.releaseAll rank = c.dropAll (c.fillingByRank rank) from rfl, CacheSet.getElem_dropAll]
  split
  · rfl
  · rename_i hmem
    exact Bool.eq_false_iff.mpr fun h => hmem (CacheSet.mem_fillingByRank.mpr h)

/-! ## A sweep start (R81, R82) -/

theorem ReadEntry.released_eq (e : ReadEntry) :
    e.released = { e with work := e.work.map fun w => { w with request := w.request.wayless } } := by
  rw [ReadEntry.released, ReadEntry.onWork, funext ReadWork.release_eq]

theorem State.startSweep_running (h : s.sweep.isRunning = true) : s.startSweep = s := by
  unfold State.startSweep
  split
  · rfl
  · rename_i finished hidle
    rw [hidle] at h
    cases h

/-- A start presented to the sweep unit while IDLE (R81, R42). -/
theorem State.startSweep_idle (h : s.sweep.isRunning = false) :
    s.startSweep =
      { s with
        dir := s.dir.releaseAll (Config.releaseRank s.freeCount)
        reads := { s.reads with entries := s.reads.entries.map fun e : ReadEntry =>
          { e with work := e.work.map fun w => { w with request := w.request.wayless } } }
        sweep := .running 0#8
        freeCount := s.freeCount + 1 } := by
  obtain ⟨finished, hidle⟩ := Sweep.eq_idle h
  simp only [State.startSweep, hidle, Vec.map_eq_vectorMap, funext ReadEntry.released_eq]

/-- The SWEEP command (R89): a start presented to the sweep unit, and DONE. -/
theorem exec_sweep (hcan : s.CanCycle) :
    exec .sweep s =
      .next { s.startSweep with cmd := { s.cmd with status := .done }, bus := s.bus.afterDataWrite } := by
  have hbus : s.sweepCommand.bus = s.bus := by rw [State.sweepCommand, State.setStatus_bus, State.startSweep_bus]
  refine congrArg Host.Outcome.next ((State.dataWrite_eq_of_bus _ hcan hbus).trans ?_)
  rw [State.sweepCommand, State.setStatus, State.startSweep_cmd]

/-- Settles O29: an IDLE sweep unit drops every FILLING way of every set, by ranks on which neither the ways' end nor the
order of the others depends. -/
theorem sweepCommandStartsOrIsAbsorbed : Obligations.SweepCommandStartsOrIsAbsorbed := by
  intro s hcan
  rw [exec_sweep hcan]
  refine ⟨fun hrun => ?_, fun hidle => ⟨s.dir.releaseAll (Config.releaseRank s.freeCount), ?_, rfl, fun i => ?_⟩⟩
  · rw [State.startSweep_running hrun]
  · rw [State.startSweep_idle hidle]
  · have hdrops := (s.dir.get i).drops_releaseAll (Config.releaseRank s.freeCount i)
    have hnone := (s.dir.get i).releaseAll_noFilling (Config.releaseRank s.freeCount i)
    rw [Directory.get_releaseAll]
    exact ⟨hdrops.getElem hnone, hdrops.order hnone⟩

/-! ## A sweep step (R83, R84) -/

theorem State.stepSweep_before_end {p : SetIndex} (h : s.sweep = .running p) (hp : p ≠ 255#8) :
    s.stepSweep = { s.onSet p (fun _ => CacheSet.cleared) with sweep := .running (p + 1#8) } := by
  simp only [State.stepSweep, h, if_neg hp]

theorem State.stepSweep_end {p : SetIndex} (h : s.sweep = .running p) (hp : p = 255#8) :
    s.stepSweep = { s.onSet p (fun _ => CacheSet.cleared) with sweep := .idle true }.setSweepFlag := by
  simp only [State.stepSweep, h, if_pos hp]

/-- Settles O53: the step clears its set, and only the one for set 255 ends the sweep. -/
theorem sweepStepClearsItsSet : Obligations.SweepStepClearsItsSet := by
  intro p s h
  refine ⟨fun hp => ?_, fun hp => ⟨_, rfl, ?_⟩⟩
  · rw [ofNat_toNat_succ]
    exact congrArg Host.Outcome.next (State.stepSweep_before_end h hp)
  · rw [State.stepSweep_end h hp]
    exact ⟨rfl, rfl, rfl⟩

end Sys2Proof.Machine
end

section
/-! SUPPORT. The law of the timers, block by block: each block's timer runs exactly while it guards something, and what every
operation of the bridge makes of that (R39, R61, R94, R107, R148). -/

namespace Sys2Proof.Machine

/-! ## A timer and what it guards -/

/-- A response timer runs exactly while its entry is IN_FLIGHT (R39). -/
def ReadEntry.Timed (e : ReadEntry) : Prop :=
  e.timer.isRunning = true ↔ ∃ w, e.work = some w ∧ w.phase = .inFlight

def ReadTable.Timed (r : ReadTable) : Prop :=
  ∀ t : Fin 4, (r.entries[t]).Timed

/-- The write timer runs exactly while an entry is SENT (R61). -/
def WriteQueue.Timed (q : WriteQueue) : Prop :=
  q.timer.isRunning = true ↔ q.entries.any WriteEntry.isSent = true

/-- The sync timer runs exactly while the barrier is SENT (R148). -/
def SyncUnit.Timed (u : SyncUnit) : Prop :=
  u.timer.isRunning = true ↔ u.state = .sent

/-- The join timer runs exactly while a taken JOIN is unanswered (R94), the quiet timer while the link is UP (R107), and a
JOIN is pending only in JOINING (R103). -/
structure LinkController.Timed (l : LinkController) : Prop where
  join : l.joinTimer.isRunning = true ↔ l.state = .joining ∧ l.joinPending = false
  quiet : l.quietTimer.isRunning = true ↔ l.state = .up
  pending : l.joinPending = true → l.state = .joining

theorem State.timerLaw_iff {s : State} : s.TimerLaw ↔ s.reads.Timed ∧ s.wq.Timed ∧ s.sync.Timed ∧ s.link.Timed :=
  ⟨fun ⟨reads, queue, sync, join, quiet, pending⟩ => ⟨reads, queue, sync, ⟨join, quiet, pending⟩⟩,
    fun ⟨reads, queue, sync, link⟩ => ⟨reads, queue, sync, link.join, link.quiet, link.pending⟩⟩

@[simp] theorem Timer.isRunning_stopped : Timer.stopped.isRunning = false := rfl

@[simp] theorem State.isRunning_startTimer (s : State) : s.startTimer.isRunning = true := rfl

@[simp] theorem State.isRunning_startQuiet (s : State) : s.startQuiet.isRunning = true := rfl

/-! ## One entry's timer (R39) -/

theorem ReadEntry.timed_of_free {e : ReadEntry} (hwork : e.work = none) (htimer : e.timer = .stopped) : e.Timed := by
  simp [ReadEntry.Timed, hwork, htimer]

theorem ReadEntry.timed_of_awaiting {e : ReadEntry} {w : ReadWork} (hwork : e.work = some w) (hphase : w.phase = .awaiting)
    (htimer : e.timer = .stopped) : e.Timed := by
  simp [ReadEntry.Timed, hwork, hphase, htimer]

theorem ReadEntry.timed_of_inFlight {e : ReadEntry} {w : ReadWork} (hwork : e.work = some w) (hphase : w.phase = .inFlight)
    (htimer : e.timer.isRunning = true) : e.Timed := by
  simp [ReadEntry.Timed, hwork, hphase, htimer]

/-- A change of the work that keeps its phase leaves the timer to what it guards. -/
theorem ReadEntry.Timed.onWork {e : ReadEntry} (h : e.Timed) {f : ReadWork → ReadWork} (hf : ∀ w, (f w).phase = w.phase) :
    (e.onWork f).Timed := by
  refine h.trans ?_
  cases hwork : e.work <;> simp [ReadEntry.onWork, hwork, hf]

theorem ReadWork.release_phase (w : ReadWork) : w.release.phase = w.phase := by
  rw [ReadWork.release_eq]

theorem ReadWork.join_phase (window : Fin 8) (w : ReadWork) : (w.join window).phase = w.phase := by
  unfold ReadWork.join
  split <;> rfl

theorem ReadEntry.Timed.ended {e : ReadEntry} (h : e.Timed) : e.ended.Timed := by
  unfold ReadEntry.ended
  split
  · exact ReadEntry.timed_of_free rfl rfl
  · exact h

/-- One entry replaced by another whose timer is right. -/
theorem ReadTable.Timed.set {r : ReadTable} (h : r.Timed) (tag : Fin 4) {e : ReadEntry} (he : e.Timed)
    (sendList : List (Fin 4)) :
    ReadTable.Timed { entries := r.entries.set tag.val e tag.isLt, sendList := sendList } := by
  intro t
  by_cases ht : t = tag
  · subst ht
    simpa using he
  · have hother : (r.entries.set tag.val e tag.isLt)[t] = r.entries[t] :=
      Vector.getElem_set_ne _ _ fun hval => ht (Fin.ext hval.symm)
    exact hother ▸ h t

/-! ## The write timer (R61) -/

theorem any_isSent (l : List WriteEntry) : l.any WriteEntry.isSent = (l.map WriteEntry.seq?).any Option.isSome := by
  rw [List.any_map]
  exact congrArg l.any (funext WriteEntry.isSent_eq_isSome)

/-- The timer's guard speaks of the sequence numbers alone. -/
theorem WriteQueue.Timed.of_seqs {q q' : WriteQueue} (h : q.Timed) (htimer : q'.timer = q.timer)
    (hseqs : q'.entries.map WriteEntry.seq? = q.entries.map WriteEntry.seq?) : q'.Timed := by
  rw [WriteQueue.Timed, htimer, any_isSent, hseqs, ← any_isSent]
  exact h

theorem any_isSent_set {l : List WriteEntry} {i : Nat} {e e' : WriteEntry} (hi : l[i]? = some e) (he : e'.isSent = true) :
    (l.set i e').any WriteEntry.isSent = true := by
  obtain ⟨hlt, -⟩ := List.getElem?_eq_some_iff.mp hi
  exact List.any_eq_true.mpr ⟨e', List.mem_set hlt e', he⟩

/-- A taken write is QUEUED, and one that it merges into keeps its state (R51, R52). -/
theorem WriteQueue.Timed.take {a : Access} {q q' : WriteQueue} (h : q.Timed) (htake : q.take a = some q') : q'.Timed := by
  have happend (l : List WriteEntry) : (l ++ [a.entry]).any WriteEntry.isSent = l.any WriteEntry.isSent := by
    simp [Access.entry, WriteEntry.isSent, WriteEntry.isQueued]
  unfold WriteQueue.take at htake
  split at htake
  · rename_i y hy
    split at htake
    · cases htake
      refine h.of_seqs rfl ?_
      conv => rhs; rw [← List.dropLast_append_getLast? y hy]
      simp [WriteEntry.seq?]
    · split at htake
      · cases htake
        rw [WriteQueue.Timed, happend]
        exact h
      · cases htake
  · rename_i hnone
    cases htake
    rw [WriteQueue.Timed, ← List.nil_append [a.entry], happend, ← List.getLast?_eq_none_iff.mp hnone]
    exact h

/-! ## What keeps every timer to what it guards -/

/-- Each block's law of its timer goes from one state to another. -/
structure State.KeepsTimers (s t : State) : Prop where
  reads : s.reads.Timed → t.reads.Timed
  queue : s.wq.Timed → t.wq.Timed
  sync : s.sync.Timed → t.sync.Timed
  link : s.link.Timed → t.link.Timed

namespace State.KeepsTimers

variable {s t u : State}

theorem refl (s : State) : s.KeepsTimers s := ⟨id, id, id, id⟩

theorem trans (h : s.KeepsTimers t) (h' : t.KeepsTimers u) : s.KeepsTimers u :=
  ⟨h'.reads ∘ h.reads, h'.queue ∘ h.queue, h'.sync ∘ h.sync, h'.link ∘ h.link⟩

theorem timerLaw (h : s.KeepsTimers t) (law : s.TimerLaw) : t.TimerLaw := by
  obtain ⟨reads, queue, sync, link⟩ := State.timerLaw_iff.mp law
  exact State.timerLaw_iff.mpr ⟨h.reads reads, h.queue queue, h.sync sync, h.link link⟩

theorem of_same (hreads : t.reads = s.reads := by simp) (hwq : t.wq = s.wq := by simp) (hsync : t.sync = s.sync := by simp)
    (hlink : t.link = s.link := by simp) : s.KeepsTimers t :=
  ⟨by rw [hreads]; exact id, by rw [hwq]; exact id, by rw [hsync]; exact id, by rw [hlink]; exact id⟩

theorem of_reads (h : s.reads.Timed → t.reads.Timed) (hwq : t.wq = s.wq := by simp) (hsync : t.sync = s.sync := by simp)
    (hlink : t.link = s.link := by simp) : s.KeepsTimers t :=
  ⟨h, by rw [hwq]; exact id, by rw [hsync]; exact id, by rw [hlink]; exact id⟩

theorem of_queue (h : s.wq.Timed → t.wq.Timed) (hreads : t.reads = s.reads := by simp)
    (hsync : t.sync = s.sync := by simp) (hlink : t.link = s.link := by simp) : s.KeepsTimers t :=
  ⟨by rw [hreads]; exact id, h, by rw [hsync]; exact id, by rw [hlink]; exact id⟩

theorem of_sync (h : s.sync.Timed → t.sync.Timed) (hreads : t.reads = s.reads := by simp) (hwq : t.wq = s.wq := by simp)
    (hlink : t.link = s.link := by simp) : s.KeepsTimers t :=
  ⟨by rw [hreads]; exact id, by rw [hwq]; exact id, h, by rw [hlink]; exact id⟩

theorem of_link (h : s.link.Timed → t.link.Timed) (hreads : t.reads = s.reads := by simp) (hwq : t.wq = s.wq := by simp)
    (hsync : t.sync = s.sync := by simp) : s.KeepsTimers t :=
  ⟨by rw [hreads]; exact id, by rw [hwq]; exact id, by rw [hsync]; exact id, h⟩

/-! What touches no block with a timer, after what keeps every timer. -/

theorem onSet (h : s.KeepsTimers t) (i : SetIndex) (f : CacheSet → CacheSet) : s.KeepsTimers (t.onSet i f) :=
  h.trans .of_same

theorem claim (h : s.KeepsTimers t) (line : LineAddr) (ref : Fin 4) (victim : Option (Fin 4)) :
    s.KeepsTimers (t.claim line ref victim) :=
  h.trans .of_same

theorem installFill (h : s.KeepsTimers t) (target : Option Target) (buffer : Line) :
    s.KeepsTimers (t.installFill target buffer) :=
  h.trans .of_same

theorem deliver (h : s.KeepsTimers t) (waiter : Bool) (buffer : Line) : s.KeepsTimers (t.deliver waiter buffer) :=
  h.trans .of_same

theorem setAccess (h : s.KeepsTimers t) (a : Access) : s.KeepsTimers (t.setAccess a) :=
  h.trans .of_same

theorem bump (h : s.KeepsTimers t) (n : CounterName) : s.KeepsTimers (t.bump n) :=
  h.trans .of_same

theorem bumpIf (h : s.KeepsTimers t) (counted : Bool) (n : CounterName) : s.KeepsTimers (t.bumpIf counted n) :=
  h.trans .of_same

theorem handRecord (h : s.KeepsTimers t) (r : ErrorRecord) : s.KeepsTimers (t.handRecord r) :=
  h.trans .of_same

theorem withNotices (h : s.KeepsTimers t) (n : NoticeChecker) : s.KeepsTimers { t with notices := n } :=
  h.trans .of_same

end State.KeepsTimers

/-! ## The path of a read (R28 to R32, R132 to R136) -/

theorem State.keepsTimers_setEntry {s : State} {tag : Fin 4} {e : ReadEntry} (he : s.reads.Timed → e.Timed) :
    s.KeepsTimers (s.setEntry tag e) :=
  .of_reads fun h => h.set tag (he h) _

theorem State.keepsTimers_takeEntry (tag : Fin 4) {w : ReadWork} (hphase : w.phase = .awaiting) (s : State) :
    s.KeepsTimers (s.takeEntry tag w) :=
  .of_reads fun h => h.set tag (ReadEntry.timed_of_awaiting rfl hphase rfl) _

theorem State.keepsTimers_takeLine (tag : Fin 4) (line : LineAddr) (purpose : Purpose) (window : Fin 8) (waiter : Bool)
    (victim : Option (Fin 4)) (s : State) : s.KeepsTimers (s.takeLine tag line purpose window waiter victim) :=
  (State.keepsTimers_takeEntry tag rfl s).claim ..

theorem State.keepsTimers_considerPrefetch (a : Access) (s : State) : s.KeepsTimers (s.considerPrefetch a) := by
  unfold State.considerPrefetch
  split
  · split
    · exact State.keepsTimers_takeLine ..
    · exact .refl s
  · exact .refl s

theorem State.keepsTimers_readMiss (a : Access) (victim : Option (Fin 4)) (s : State) :
    s.KeepsTimers (s.readMiss a victim) := by
  unfold State.readMiss
  split
  · exact ((State.keepsTimers_takeLine ..).trans (State.keepsTimers_considerPrefetch a _)).setAccess _
  · exact .of_same

theorem State.keepsTimers_readWord (a : Access) (s : State) : s.KeepsTimers (s.readWord a) := by
  unfold State.readWord
  split
  · exact (State.keepsTimers_takeEntry _ rfl s).setAccess _
  · exact .of_same

theorem State.keepsTimers_readLookup (counted : Bool) (a : Access) (s : State) :
    s.KeepsTimers (s.readLookup counted a) := by
  unfold State.readLookup
  split
  · exact .of_same
  · rename_i ref _
    have hjoin : (s.bumpIf counted .misses).KeepsTimers
        ((s.bumpIf counted .misses).setEntry ref ((s.reads.entries[ref]).onWork (ReadWork.join a.window))) :=
      State.keepsTimers_setEntry fun h => by
        rw [State.bumpIf_reads] at h
        exact (h ref).onWork (ReadWork.join_phase a.window)
    exact (((State.KeepsTimers.refl s).bumpIf counted .misses).trans hjoin).setAccess _
  · exact ((State.KeepsTimers.refl s).bumpIf counted .misses).trans (State.keepsTimers_readMiss ..)

theorem State.keepsTimers_dispatchRead (counted : Bool) (a : Access) (s : State) :
    s.KeepsTimers (s.dispatchRead counted a) := by
  unfold State.dispatchRead
  split
  · exact State.keepsTimers_readLookup ..
  · exact State.keepsTimers_readWord ..

theorem State.keepsTimers_startRead (a : Access) (s : State) : s.KeepsTimers (s.startRead a) := by
  unfold State.startRead
  split
  · exact .of_same
  · exact State.keepsTimers_dispatchRead ..

theorem State.keepsTimers_resumeFreeEntry (s : State) : s.KeepsTimers s.resumeFreeEntry := by
  unfold State.resumeFreeEntry
  split
  · split
    · exact State.keepsTimers_dispatchRead ..
    · exact .refl s
  · exact .refl s

theorem State.keepsTimers_resumeQueueEmpty (s : State) : s.KeepsTimers s.resumeQueueEmpty := by
  unfold State.resumeQueueEmpty
  split
  · split
    · exact State.keepsTimers_dispatchRead ..
    · exact .refl s
  · exact .refl s

/-! ## Responses (R34, R37) -/

theorem State.keepsTimers_freeUp (tag : Fin 4) (s : State) : s.KeepsTimers (s.freeUp tag) :=
  State.keepsTimers_setEntry fun _ => ReadEntry.timed_of_free rfl rfl

theorem State.keepsTimers_completeRead (tag : Fin 4) (w : ReadWork) (returned : Line) (s : State) :
    s.KeepsTimers (s.completeRead tag w returned) := by
  unfold State.completeRead
  refine State.KeepsTimers.trans ?_ (State.keepsTimers_resumeFreeEntry _)
  refine State.KeepsTimers.trans ?_ (State.keepsTimers_freeUp tag _)
  have hfill (buffer : Line) : s.KeepsTimers (s.setEntry tag { s.reads.entries[tag] with fill := buffer }) :=
    State.keepsTimers_setEntry fun h => h tag
  exact ((hfill _).installFill ..).deliver ..

theorem State.keepsTimers_refuseRead (tag : Fin 4) (w : ReadWork) (s : State) : s.KeepsTimers (s.refuseRead tag w) := by
  unfold State.refuseRead
  refine State.KeepsTimers.trans ?_ (State.keepsTimers_resumeFreeEntry _)
  refine State.KeepsTimers.trans ?_ (State.keepsTimers_freeUp tag _)
  repeat' split
  all_goals exact .of_same

/-! ## A line dropped, a sweep started (R13, R42) -/

theorem State.keepsTimers_dropLine (line : LineAddr) (s : State) : s.KeepsTimers (s.dropLine line) := by
  unfold State.dropLine
  split
  · exact .of_same
  · exact ((State.KeepsTimers.refl s).onSet ..).trans
      (State.keepsTimers_setEntry fun h => (h _).onWork ReadWork.release_phase)
  · exact .refl s
  · exact .refl s

theorem State.keepsTimers_startSweep (s : State) : s.KeepsTimers s.startSweep := by
  refine .of_reads fun h => ?_
  unfold State.startSweep
  split
  · exact h
  · intro t
    simpa [ReadEntry.released] using (h t).onWork ReadWork.release_phase

theorem State.keepsTimers_takeNotice (seq : Seq) (line : LineAddr) (s : State) :
    s.KeepsTimers (s.takeNotice seq line) := by
  unfold State.takeNotice
  split
  · dsimp only
    split
    · exact (((State.KeepsTimers.refl s).withNotices _).trans (State.keepsTimers_dropLine line _)).bump _
    · exact .of_same
  · exact (((State.KeepsTimers.refl s).handRecord _).trans (State.keepsTimers_startSweep _)).withNotices _

theorem State.keepsTimers_takeTick (next : Seq) (s : State) : s.KeepsTimers (s.takeTick next) := by
  unfold State.takeTick
  split
  · exact .refl s
  · exact (((State.KeepsTimers.refl s).handRecord _).trans (State.keepsTimers_startSweep _)).withNotices _

/-! ## The write queue (R50 to R65) -/

theorem State.keepsTimers_presentWrite (a : Access) (s : State) : s.KeepsTimers (s.presentWrite a) := by
  refine .of_queue fun h => ?_
  rw [State.presentWrite_wq]
  cases htake : s.wq.take a with
  | none => exact h
  | some q => exact h.take htake

theorem State.keepsTimers_resumeQueueSpace (s : State) : s.KeepsTimers s.resumeQueueSpace := by
  unfold State.resumeQueueSpace
  split
  · split
    · exact State.keepsTimers_presentWrite ..
    · exact .refl s
  · exact .refl s

theorem State.keepsTimers_removeEntries (k : Nat) (s : State) : s.KeepsTimers (s.removeEntries k) where
  reads := by rw [State.removeEntries_reads]; exact id
  queue _ := by
    rw [State.removeEntries_wq, WriteQueue.Timed]
    cases h : (s.wq.entries.drop k).any WriteEntry.isSent <;> simp
  sync h := by
    unfold State.removeEntries
    dsimp only
    split <;> exact h
  link := by rw [State.removeEntries_link]; exact id

theorem State.keepsTimers_retired (k : Nat) (status : Status) (s : State) : s.KeepsTimers (s.retired k status) := by
  refine (State.keepsTimers_removeEntries k s).trans ?_
  unfold State.retired
  dsimp only
  repeat' split
  all_goals exact .of_same

theorem State.keepsTimers_ackEntries (k : Nat) (status : Status) (s : State) : s.KeepsTimers (s.ackEntries k status) := by
  rw [State.ackEntries_eq]
  exact ((State.keepsTimers_retired k status s).trans (State.keepsTimers_resumeQueueSpace _)).trans
    (State.keepsTimers_resumeQueueEmpty _)

theorem State.keepsTimers_checkTotal (status : Status) (total : BitVec 8) (s : State) :
    s.KeepsTimers (s.checkTotal status total) :=
  .of_queue fun h => by rw [State.checkTotal_wq]; exact h

/-- A go-back replay restarts the timer, which ran for the SENT entries that it flags (R62). -/
theorem State.keepsTimers_replay {s : State} (hrun : s.wq.timer.isRunning = true) : s.KeepsTimers s.replay := by
  refine .of_queue fun h => ⟨fun _ => ?_, fun _ => rfl⟩
  have hseqs : s.replay.wq.entries.map WriteEntry.seq? = s.wq.entries.map WriteEntry.seq? := by
    simp [State.replay, WriteEntry.flagged_seq]
  rw [any_isSent, hseqs, ← any_isSent]
  exact h.mp hrun

/-! ## The sync unit (R146 to R152) -/

theorem SyncUnit.timed_of_stopped {u : SyncUnit} (htimer : u.timer = .stopped) (hstate : u.state ≠ .sent) : u.Timed := by
  simp [SyncUnit.Timed, htimer, hstate]

theorem acceptedSync_state (q : WriteQueue) (u : SyncUnit) :
    (acceptedSync q u).state = .pending ∧ (acceptedSync q u).timer = .stopped := by
  unfold acceptedSync
  split
  · exact ⟨rfl, rfl⟩
  · split <;> exact ⟨rfl, rfl⟩

theorem State.keepsTimers_acceptBarrier (s : State) : s.KeepsTimers s.acceptBarrier where
  reads := id
  queue h := h.of_seqs rfl (markYoungest_seqs s.wq.entries)
  sync _ := by
    obtain ⟨hstate, htimer⟩ := acceptedSync_state s.wq s.sync
    exact SyncUnit.timed_of_stopped htimer (by simp [hstate])
  link := id

theorem State.keepsTimers_takeSyncAck (issue : Issue) (s : State) : s.KeepsTimers (s.takeSyncAck issue) := by
  unfold State.takeSyncAck
  split
  · exact .of_sync fun _ => SyncUnit.timed_of_stopped rfl (by simp)
  · exact .of_same

theorem State.keepsTimers_resendSync (s : State) : s.KeepsTimers s.resendSync :=
  .of_sync fun _ => SyncUnit.timed_of_stopped rfl (by simp [State.resendSync])

/-! ## The transmitter (R102) -/

/-- The transmitter and the other items of the link controller are not what its timers guard. -/
theorem LinkController.Timed.of_items {l l' : LinkController} (h : l.Timed) (hstate : l'.state = l.state)
    (hpending : l'.joinPending = l.joinPending) (hjoin : l'.joinTimer = l.joinTimer)
    (hquiet : l'.quietTimer = l.quietTimer) : l'.Timed := by
  refine ⟨?_, ?_, ?_⟩
  · rw [hjoin, hstate, hpending]
    exact h.join
  · rw [hquiet, hstate]
    exact h.quiet
  · rw [hpending, hstate]
    exact h.pending

theorem State.keepsTimers_takeJoin {s : State} (hpending : s.link.joinPending = true) : s.KeepsTimers s.takeJoin := by
  refine .of_link fun h => ⟨?_, h.quiet, fun h => absurd h Bool.false_ne_true⟩
  simp [State.takeJoin, h.pending hpending]

theorem State.keepsTimers_takeRead (tag : Fin 4) (rest : List (Fin 4)) (s : State) :
    s.KeepsTimers (s.takeRead tag rest) := by
  unfold State.takeRead
  dsimp only
  split
  · exact ⟨fun h => h.set tag (ReadEntry.timed_of_inFlight rfl rfl rfl) _, id, id, fun h => h.of_items rfl rfl rfl rfl⟩
  · exact .refl s

theorem State.keepsTimers_takeWrite (i : Nat) (s : State) : s.KeepsTimers (s.takeWrite i) := by
  cases hi : s.wq.entries[i]? with
  | none => rw [show s.takeWrite i = s by simp only [State.takeWrite, hi]]; exact .refl s
  | some e =>
    refine ⟨by rw [State.takeWrite_reads]; exact id, fun h => ?queue, fun h => ?sync, fun h => ?link⟩
    case queue =>
      cases he : e.state with
      | queued =>
        rw [State.takeWrite_wq_queued hi he, WriteQueue.Timed]
        refine ⟨fun _ => any_isSent_set hi rfl, fun _ => ?_⟩
        dsimp only
        split
        · exact h.mpr ‹_›
        · rfl
      | sent q r =>
        rw [State.takeWrite_wq_sent hi he]
        refine ⟨fun _ => any_isSent_set hi rfl, fun _ => h.mpr ?_⟩
        exact List.any_eq_true.mpr ⟨e, List.mem_of_getElem? hi, by simp [WriteEntry.isSent, WriteEntry.isQueued, he]⟩
    case sync =>
      simp only [State.takeWrite, hi]
      repeat' split
      all_goals exact h
    case link =>
      simp only [State.takeWrite, hi]
      repeat' split
      all_goals exact h.of_items rfl rfl rfl rfl

theorem State.keepsTimers_takeSync (s : State) : s.KeepsTimers s.takeSync :=
  ⟨id, id, fun _ => ⟨fun _ => rfl, fun _ => rfl⟩, fun h => h.of_items rfl rfl rfl rfl⟩

theorem State.keepsTimers_transmit (s : State) : s.KeepsTimers s.transmit := by
  unfold State.transmit
  split
  · exact .refl s
  · split
    · exact .refl s
    · split
      · exact State.keepsTimers_takeJoin ‹_›
      · split
        · exact State.keepsTimers_takeRead ..
        · split
          · exact State.keepsTimers_takeWrite ..
          · split
            · exact State.keepsTimers_takeSync s
            · exact .refl s

/-- What keeps the timers before the transmitter's choice keeps them after it (R102). -/
theorem State.KeepsTimers.transmit {s t : State} (h : s.KeepsTimers t) : s.KeepsTimers t.transmit :=
  h.trans (State.keepsTimers_transmit t)

theorem State.keepsTimers_takeResponse (tag : Fin 4) (issue : Issue) (isLine : Bool) (status : Status)
    (returned : ReadWork → Line) (s : State) : s.KeepsTimers (s.takeResponse tag issue isLine status returned) := by
  unfold State.takeResponse
  split
  · exact .of_same
  · split
    · exact (State.keepsTimers_completeRead ..).transmit
    · exact (State.keepsTimers_refuseRead ..).transmit

theorem State.keepsTimers_takeWriteAck (seq : Seq) (status : Status) (total : BitVec 8) (s : State) :
    s.KeepsTimers (s.takeWriteAck seq status total) := by
  unfold State.takeWriteAck
  dsimp only
  split
  · exact ((State.keepsTimers_ackEntries ..).trans (State.keepsTimers_checkTotal ..)).transmit
  · exact (((State.KeepsTimers.refl s).bump _).trans (State.keepsTimers_checkTotal ..)).transmit

/-! ## The link controller (R93 to R107) -/

theorem State.keepsTimers_restartQuiet {s : State} (hu : s.link.state = .up) : s.KeepsTimers s.restartQuiet :=
  .of_link fun h => ⟨h.join, ⟨fun _ => hu, fun _ => rfl⟩, h.pending⟩

/-- A join begins where none is under way, so its timer does not run yet (R93). -/
theorem State.keepsTimers_beginJoin {s : State} (hu : s.link.state ≠ .up) (hj : s.link.state ≠ .joining) :
    s.KeepsTimers s.beginJoin := by
  refine .of_link fun h => ⟨?_, ?_, fun _ => rfl⟩
  · have hstopped : s.link.joinTimer.isRunning = false := by simpa [hj] using h.join
    simp [hstopped]
  · have hstopped : s.link.quietTimer.isRunning = false := by simpa [hu] using h.quiet
    simp [hstopped]

/-- A link that comes UP ends its join and starts the quiet timer (R95). -/
theorem State.keepsTimers_joinUp (first : Seq) (s : State) : s.KeepsTimers (s.joinUp first) where
  reads := id
  queue := id
  sync := id
  link _ := by constructor <;> simp [State.joinUp]

/-- A JOIN is resent in JOINING, where its timer ran (R94). -/
theorem State.keepsTimers_resendJoin {s : State} (hrun : s.link.joinTimer.isRunning = true) : s.KeepsTimers s.resendJoin :=
  .of_link fun h => ⟨by simp [State.resendJoin], h.quiet, fun _ => (h.join.mp hrun).1⟩

/-- A join that ends in failure had been taken, and the quiet timer does not run while JOINING (R101). -/
theorem State.keepsTimers_failJoin {s : State} (hrun : s.link.joinTimer.isRunning = true) : s.KeepsTimers s.failJoin := by
  refine .of_link (fun h => ?_) (by simp [State.failJoin]) (by simp [State.failJoin]) (by simp [State.failJoin])
  obtain ⟨hstate, hpending⟩ := h.join.mp hrun
  have hstopped : s.link.quietTimer.isRunning = false := by simpa [hstate] using h.quiet
  constructor <;> simp [State.failJoin, hpending, hstopped]

theorem State.keepsTimers_resendRead (tag : Fin 4) (w : ReadWork) (s : State) : s.KeepsTimers (s.resendRead tag w) :=
  .of_reads fun h => h.set tag (ReadEntry.timed_of_awaiting rfl rfl rfl) _

end Sys2Proof.Machine
end

section
/-! SUPPORT. The link law with the law of the timers, step by step: what a link that is not UP holds, what teardown and failure
leave, and that every operation of the bridge keeps both laws (R91, R98). -/

namespace Sys2Proof.Machine

/-! ## The two laws -/

/-- What the link law says while the link is not UP (R91, R98, R143). -/
structure State.Quiescent (s : State) : Prop where
  entries : ∀ t : Fin 4, (s.reads.entries[t]).work = none
  queue : s.wq.entries = []
  noFilling : s.NoFilling
  notPending : s.sync.state ≠ .pending
  notSent : s.sync.state ≠ .sent
  access : s.bus.access = none

theorem State.linkLaw_iff {s : State} : s.LinkLaw ↔ (s.link.state ≠ .up → s.Quiescent) := by
  refine forall_congr' fun _ => ⟨fun ⟨entries, queue, noFilling, notPending, notSent, access⟩ => ?_, fun h => ?_⟩
  · exact ⟨entries, queue, noFilling, notPending, notSent, access⟩
  · exact ⟨h.entries, h.queue, h.noFilling, h.notPending, h.notSent, h.access⟩

/-- The link law and the law of the timers hold together. -/
structure State.Governed (s : State) : Prop where
  link : s.LinkLaw
  timers : s.TimerLaw

/-- What both laws speak of, but for the pending access. -/
def State.guarded (s : State) :
    Vector ReadEntry 4 × WriteQueue × SyncUnit × Vector CacheSet 256 × LinkState × Bool × Timer × Timer :=
  (s.reads.entries, s.wq, s.sync, s.dir.sets, s.link.state, s.link.joinPending, s.link.joinTimer, s.link.quietTimer)

theorem State.noFilling_of_sets {s t : State} (h : s.NoFilling) (hsets : t.dir.sets = s.dir.sets) : t.NoFilling := by
  intro i w
  have hget : t.dir.get i = s.dir.get i := by simp only [Directory.get, hsets]
  rw [hget]
  exact h i w

namespace State.Governed

variable {s t : State}

theorem quiescent (h : s.Governed) (hu : s.link.state ≠ .up) : s.Quiescent :=
  State.linkLaw_iff.mp h.link hu

theorem linkTimed (h : s.Governed) : s.link.Timed :=
  (State.timerLaw_iff.mp h.timers).2.2.2

/-- While the link is UP only the timers have a law to keep. -/
theorem of_up (h : s.Governed) (keeps : s.KeepsTimers t) (hu : t.link.state = .up) : t.Governed :=
  ⟨fun hn => absurd hu hn, keeps.timerLaw h.timers⟩

theorem of_keeps (h : s.Governed) (keeps : s.KeepsTimers t) (hstate : s.link.state = .up → t.link.state = .up)
    (hquiet : s.Quiescent → t.Quiescent) : t.Governed :=
  ⟨State.linkLaw_iff.mpr fun hu => hquiet (h.quiescent fun hs => hu (hstate hs)), keeps.timerLaw h.timers⟩

/-- Both laws stay when nothing that they speak of changes, or when an access ends besides. -/
theorem of_guarded (h : s.Governed) (hitems : t.guarded = s.guarded)
    (haccess : t.bus.access = s.bus.access ∨ t.bus.access = none) : t.Governed := by
  simp only [State.guarded, Prod.mk.injEq] at hitems
  obtain ⟨hentries, hwq, hsync, hsets, hstate, hpending, hjoin, hquiet⟩ := hitems
  refine h.of_keeps ⟨fun hr u => ?_, ?_, ?_, fun hl => hl.of_items hstate hpending hjoin hquiet⟩ (by rw [hstate]; exact id)
    fun q => ⟨?_, ?_, State.noFilling_of_sets q.noFilling hsets, ?_, ?_, ?_⟩
  · rw [hentries]
    exact hr u
  · rw [hwq]
    exact id
  · rw [hsync]
    exact id
  · rw [hentries]
    exact q.entries
  · rw [hwq]
    exact q.queue
  · rw [hsync]
    exact q.notPending
  · rw [hsync]
    exact q.notSent
  · rcases haccess with haccess | haccess
    · rw [haccess]
      exact q.access
    · exact haccess

end State.Governed

/-! ## What says that the link is UP (R91) -/

theorem State.Governed.up_of_not_quiescent {s : State} (h : s.Governed) (hq : ¬ s.Quiescent) : s.link.state = .up := by
  by_contra hu
  exact hq (h.quiescent hu)

theorem State.Governed.up_of_work {s : State} (h : s.Governed) {tag : Fin 4} {w : ReadWork}
    (hw : (s.reads.entries[tag]).work = some w) : s.link.state = .up :=
  h.up_of_not_quiescent fun q => by
    rw [q.entries tag] at hw
    cases hw

theorem State.Governed.up_of_access {s : State} (h : s.Governed) {a : Access} (ha : s.bus.access = some a) :
    s.link.state = .up :=
  h.up_of_not_quiescent fun q => by
    rw [q.access] at ha
    cases ha

/-- The write timer runs for a SENT entry, so the queue holds one (R61). -/
theorem State.Governed.up_of_writeTimer {s : State} (h : s.Governed) (hrun : s.wq.timer.isRunning = true) :
    s.link.state = .up :=
  h.up_of_not_quiescent fun q => by
    have hsent := (State.timerLaw_iff.mp h.timers).2.1.mp hrun
    rw [q.queue] at hsent
    cases hsent

/-- The sync timer runs for a SENT barrier (R148). -/
theorem State.Governed.up_of_syncTimer {s : State} (h : s.Governed) (hrun : s.sync.timer.isRunning = true) :
    s.link.state = .up :=
  h.up_of_not_quiescent fun q => q.notSent ((State.timerLaw_iff.mp h.timers).2.2.1.mp hrun)

/-! ## The transmitter (R102) -/

theorem State.transmit_linkState (s : State) : s.transmit.link.state = s.link.state := by
  unfold State.transmit
  split
  · rfl
  · split
    · rfl
    · split
      · rfl
      · split
        · unfold State.takeRead
          dsimp only
          split <;> rfl
        · split
          · unfold State.takeWrite
            repeat' split
            all_goals rfl
          · split <;> rfl

theorem State.takeResponse_linkState (tag : Fin 4) (issue : Issue) (isLine : Bool) (status : Status)
    (returned : ReadWork → Line) (s : State) :
    (s.takeResponse tag issue isLine status returned).link.state = s.link.state := by
  unfold State.takeResponse
  split
  · rfl
  · split <;> simp [State.transmit_linkState]

theorem State.takeWriteAck_linkState (seq : Seq) (status : Status) (total : BitVec 8) (s : State) :
    (s.takeWriteAck seq status total).link.state = s.link.state := by
  unfold State.takeWriteAck
  dsimp only
  split <;> simp [State.transmit_linkState]

theorem State.Quiescent.takeJoin {s : State} (q : s.Quiescent) : s.takeJoin.Quiescent :=
  ⟨q.entries, q.queue, q.noFilling, q.notPending, q.notSent, q.access⟩

/-- While the link is not UP only a JOIN can be offered (R103). -/
theorem State.Quiescent.transmit {s : State} (q : s.Quiescent) : s.transmit.Quiescent := by
  have hread (tag : Fin 4) (rest : List (Fin 4)) : s.takeRead tag rest = s := by
    simp only [State.takeRead, q.entries tag]
  have hoffer : writeOffer s.wq.entries = none := by
    rw [q.queue]
    rfl
  have hready : s.sync.ready = false := by
    simp [SyncUnit.ready, q.notPending]
  unfold State.transmit
  simp only [hread, hoffer, hready, Bool.false_eq_true, if_false]
  split
  · exact q
  · split
    · exact q
    · split
      · exact q.takeJoin
      · split <;> exact q

theorem State.Governed.transmit {s : State} (h : s.Governed) : s.transmit.Governed :=
  h.of_keeps (State.keepsTimers_transmit s) (fun hu => (State.transmit_linkState s).trans hu) State.Quiescent.transmit

/-- What keeps the timers while the link is UP keeps both laws through the transmitter's choice. -/
theorem State.Governed.transmit_of_up {s t : State} (h : s.Governed) (keeps : s.KeepsTimers t) (hu : t.link.state = .up) :
    t.transmit.Governed :=
  (h.of_up keeps hu).transmit

/-! ## The directory while the link is not UP -/

theorem State.noFilling_onSet {s : State} (h : s.NoFilling) {i : SetIndex} {f : CacheSet → CacheSet}
    (hf : ∀ w : Fin 4, ((f (s.dir.get i)).ways[w]).isFilling = false) : (s.onSet i f).NoFilling := by
  intro j w
  rw [State.onSet_dir, Directory.get_put]
  split
  · exact hf w
  · exact h j w

theorem CacheSet.noFilling_drop {c : CacheSet} (h : ∀ w : Fin 4, (c.ways[w]).isFilling = false) (v w : Fin 4) :
    (((c.drop v).ways)[w]).isFilling = false := by
  rw [CacheSet.getElem_drop]
  split
  · rfl
  · exact h w

theorem State.Quiescent.onSet {s : State} (q : s.Quiescent) {i : SetIndex} {f : CacheSet → CacheSet}
    (hf : ∀ w : Fin 4, ((f (s.dir.get i)).ways[w]).isFilling = false) : (s.onSet i f).Quiescent :=
  ⟨q.entries, q.queue, State.noFilling_onSet q.noFilling hf, q.notPending, q.notSent, q.access⟩

theorem State.Quiescent.dropLine {s : State} (q : s.Quiescent) (line : LineAddr) : (s.dropLine line).Quiescent := by
  unfold State.dropLine
  split
  · exact q.onSet (CacheSet.noFilling_drop (q.noFilling _) _)
  · rename_i w tag ref hfind
    obtain ⟨hway, -⟩ := Directory.way_of_findWay hfind
    have hnone := q.noFilling (setOf line) w
    rw [hway] at hnone
    cases hnone
  · exact q
  · exact q

theorem State.Quiescent.startSweep {s : State} (q : s.Quiescent) : s.startSweep.Quiescent where
  entries t := by rw [State.getElem_startSweep_of_free (q.entries t), q.entries t]
  queue := by rw [State.startSweep_wq, q.queue]
  noFilling i w := by
    rw [State.get_startSweep_of_noFilling q.noFilling]
    exact q.noFilling i w
  notPending := by rw [State.startSweep_sync]; exact q.notPending
  notSent := by rw [State.startSweep_sync]; exact q.notSent
  access := by rw [State.startSweep_bus, q.access]

theorem State.Governed.dropLine {s : State} (h : s.Governed) (line : LineAddr) : (s.dropLine line).Governed :=
  h.of_keeps (State.keepsTimers_dropLine line s) (by rw [State.dropLine_link]; exact id) fun q => q.dropLine line

theorem State.Governed.startSweep {s : State} (h : s.Governed) : s.startSweep.Governed :=
  h.of_keeps (State.keepsTimers_startSweep s) (by rw [State.startSweep_link]; exact id) State.Quiescent.startSweep

theorem State.Governed.stepSweep {s : State} (h : s.Governed) : s.stepSweep.Governed := by
  have hcleared (p : SetIndex) : (s.onSet p fun _ => CacheSet.cleared).Governed :=
    h.of_keeps .of_same id fun q => q.onSet (by decide)
  unfold State.stepSweep
  split
  · dsimp only
    split <;> exact (hcleared _).of_guarded rfl (.inl rfl)
  · exact h

/-! ## Teardown and failure (R97 to R101) -/

theorem State.endAtTeardown_access (s : State) : s.endAtTeardown.bus.access = none := by
  unfold State.endAtTeardown
  cases haccess : s.bus.access with
  | none => exact haccess
  | some a => rcases a with ⟨_ | _⟩ <;> rfl

theorem State.endSync_state (s : State) : s.endSync.sync.state ≠ .pending ∧ s.endSync.sync.state ≠ .sent := by
  rw [State.endSync_sync]
  unfold SyncUnit.fails
  cases s.sync.state with
  | done => cases s.sync.mark == .sent <;> simp
  | idle | pending | sent | failed => simp

/-- Teardown leaves what a link that is not UP holds (R98). -/
theorem State.teardown_quiescent {s : State} (fill : s.FillLaw) : s.teardown.Quiescent where
  entries t := by rw [State.getElem_teardown, ReadEntry.ended_work]
  queue := by rw [State.teardown_wq, WriteQueue.emptied]
  noFilling := State.teardown_noFilling fill
  notPending := by rw [State.teardown_sync]; exact s.endSync_state.1
  notSent := by rw [State.teardown_sync]; exact s.endSync_state.2
  access := by rw [State.teardown_bus, State.endAtTeardown_access]

/-- The link controller's timers at rest in a state that is neither UP nor JOINING. -/
theorem LinkController.timed_of_stopped {l : LinkController} (hu : l.state ≠ .up) (hj : l.state ≠ .joining)
    (hpending : l.joinPending = false) (hjoin : l.joinTimer = .stopped) (hquiet : l.quietTimer = .stopped) : l.Timed := by
  constructor <;> simp [*]

/-- A link torn down and left neither UP nor JOINING keeps both laws (R98). -/
theorem State.governed_of_teardown {s t : State} (reads : s.reads.Timed) (fill : s.FillLaw)
    (hitems : t.guarded = { s.teardown with link := t.link }.guarded) (haccess : t.bus.access = none)
    (hlink : t.link.Timed) : t.Governed := by
  have hblocks : { s.teardown with link := t.link }.Governed := by
    refine ⟨State.linkLaw_iff.mpr fun _ => ?_, State.timerLaw_iff.mpr ⟨fun u => ?_, ?_, ?_, hlink⟩⟩
    · have q := State.teardown_quiescent fill
      exact ⟨q.entries, q.queue, q.noFilling, q.notPending, q.notSent, q.access⟩
    · dsimp only
      rw [State.getElem_teardown]
      exact (reads u).ended
    · dsimp only
      rw [State.teardown_wq]
      simp [WriteQueue.Timed, WriteQueue.emptied]
    · dsimp only
      rw [State.teardown_sync]
      exact SyncUnit.timed_of_stopped (by rw [State.endSync_sync]) s.endSync_state.2
  exact hblocks.of_guarded hitems (.inr haccess)

theorem State.afterFailure_governed {s : State} (cause : Cause) (reads : s.reads.Timed) (fill : s.FillLaw) :
    (s.afterFailure cause).Governed := by
  have hlink := State.afterFailure_link cause s
  refine State.governed_of_teardown (s := s.linkFailed cause) reads fill ?_ ?_ ?_
  · rw [State.afterFailure_eq]
    rfl
  · rw [State.afterFailure_bus, State.endAtTeardown_access]
  · rw [hlink]
    exact LinkController.timed_of_stopped (by simp) (by simp) rfl rfl rfl

theorem State.Governed.beginJoin {s : State} (h : s.Governed) (hu : s.link.state ≠ .up) (hj : s.link.state ≠ .joining) :
    s.beginJoin.Governed :=
  h.of_keeps (State.keepsTimers_beginJoin hu hj) (fun hup => absurd hup hu) fun q =>
    ⟨q.entries, q.queue, q.noFilling, q.notPending, q.notSent, q.access⟩

/-- A failure keeps both laws, whether the link rests in FAILED or rejoins (R97 to R100). -/
theorem State.Governed.fail {s : State} (h : s.Governed) (fill : s.FillLaw) (cause : Cause) : (s.fail cause).Governed := by
  have hafter := State.afterFailure_governed cause (State.timerLaw_iff.mp h.timers).1 fill
  have hstate : (s.afterFailure cause).link.state = .failed := by rw [State.afterFailure_link]
  rw [State.fail_eq]
  split
  · exact (hafter.beginJoin (by simp [hstate]) (by simp [hstate])).transmit
  · exact hafter.transmit

/-! ## Arriving frames (R105, R106) -/

theorem State.Governed.restartQuiet {s : State} (h : s.Governed) (hu : s.link.state = .up) : s.restartQuiet.Governed :=
  h.of_up (State.keepsTimers_restartQuiet hu) hu

/-- What a block does with a frame keeps both laws, and only a RESTART takes the link from UP (R106). -/
theorem State.Governed.takeFrame {s : State} (h : s.Governed) (fill : s.FillLaw) (hu : s.link.state = .up) (f : InFrame) :
    (s.takeFrame f).Governed := by
  cases f with
  | welcome first => exact h.of_guarded rfl (.inl rfl)
  | lineData tag issue status data =>
    refine h.of_up (State.keepsTimers_takeResponse ..) ?_
    exact (State.takeResponse_linkState ..).trans hu
  | wordData tag issue status data =>
    refine h.of_up (State.keepsTimers_takeResponse ..) ?_
    exact (State.takeResponse_linkState ..).trans hu
  | writeAck seq status total =>
    refine h.of_up (State.keepsTimers_takeWriteAck ..) ?_
    exact (State.takeWriteAck_linkState ..).trans hu
  | syncAck issue =>
    refine h.of_up (State.keepsTimers_takeSyncAck ..) ?_
    exact (congrArg LinkController.state (State.takeSyncAck_link ..)).trans hu
  | notice seq line =>
    refine h.of_up (State.keepsTimers_takeNotice ..) ?_
    exact (congrArg LinkController.state (State.takeNotice_link ..)).trans hu
  | tick next =>
    refine h.of_up (State.keepsTimers_takeTick ..) ?_
    exact (congrArg LinkController.state (State.takeTick_link ..)).trans hu
  | restart => exact h.fail fill .storeRestart

theorem State.Governed.takeFrameJoining {s : State} (h : s.Governed) (f : InFrame) : (s.takeFrameJoining f).Governed := by
  cases f with
  | welcome first => exact h.of_up (State.keepsTimers_joinUp first s) rfl
  | lineData | wordData | writeAck | syncAck | notice | tick | restart => exact h.of_guarded rfl (.inl rfl)

theorem State.Governed.receive {s : State} (h : s.Governed) (fill : s.FillLaw) (f : InFrame) : (s.receive f).Governed := by
  unfold State.receive
  split
  · exact h
  · split
    · exact h
    · exact h
    · exact h.takeFrameJoining f
    · rename_i hu
      exact (h.restartQuiet hu).takeFrame fill hu f

theorem State.Governed.receiveBytes {s : State} (h : s.Governed) (fill : s.FillLaw) (bytes : List Byte) :
    (s.receiveBytes bytes).Governed := by
  unfold State.receiveBytes
  split
  · exact h
  · split
    · exact h
    · exact h
    all_goals
      split
      · exact h.of_guarded rfl (.inl rfl)
      · exact h.receive fill _

/-! ## Cycles in the aperture (R127) -/

/-- An access that passes the checks finds the link UP (R129). -/
theorem State.up_of_checkAccess {s : State} {c : Cycle} {direction : Direction} {a : Access}
    (h : s.checkAccess c direction = .ok a) : s.link.state = .up := by
  unfold State.checkAccess at h
  dsimp only at h
  split at h
  · cases h
  · split at h
    · split at h
      · assumption
      all_goals cases h
    · cases h

theorem State.Governed.apertureRead {s : State} (h : s.Governed) (c : Cycle) : (s.apertureRead c).Governed := by
  unfold State.apertureRead
  split
  · exact h
  · split
    · exact h.of_guarded (by simp [State.guarded]) (.inr (by simp))
    · rename_i a hcheck
      exact h.transmit_of_up (State.keepsTimers_startRead a s) (by rw [State.startRead_link, State.up_of_checkAccess hcheck])

theorem State.Governed.apertureWrite {s : State} (h : s.Governed) (c : Cycle) (data : BitVec 32) :
    (s.apertureWrite c data).Governed := by
  unfold State.apertureWrite
  split
  · exact h
  · split
    · exact h.of_guarded (by simp [State.guarded]) (.inr (by simp))
    · rename_i a hcheck
      exact h.transmit_of_up (State.keepsTimers_presentWrite a s)
        (by rw [State.presentWrite_link, State.up_of_checkAccess hcheck])

theorem State.Governed.resumeFreeEntry {s : State} (h : s.Governed) : s.resumeFreeEntry.Governed := by
  cases ha : s.bus.access with
  | none => rwa [State.resumeFreeEntry_idle (by simp [ha])]
  | some a => exact h.of_up (State.keepsTimers_resumeFreeEntry s) (by rw [State.resumeFreeEntry_link, h.up_of_access ha])

theorem State.Governed.resumeQueueSpace {s : State} (h : s.Governed) : s.resumeQueueSpace.Governed := by
  cases ha : s.bus.access with
  | none => rwa [State.resumeQueueSpace_idle (by simp [ha])]
  | some a => exact h.of_up (State.keepsTimers_resumeQueueSpace s) (by rw [State.resumeQueueSpace_link, h.up_of_access ha])

theorem State.Governed.resumeQueueEmpty {s : State} (h : s.Governed) : s.resumeQueueEmpty.Governed := by
  cases ha : s.bus.access with
  | none => rwa [State.resumeQueueEmpty_idle (by simp [ha])]
  | some a => exact h.of_up (State.keepsTimers_resumeQueueEmpty s) (by rw [State.resumeQueueEmpty_link, h.up_of_access ha])

/-! ## Cycles on the ports (R167, R168) -/

/-- A DATA write keeps both laws when its effect on the register does. -/
theorem State.Governed.dataWrite {s : State} (h : s.Governed) {effect : State → State} (heffect : (effect s).Governed) :
    (s.dataWrite effect).Governed := by
  cases hheld : s.busHeld with
  | true => rwa [State.dataWrite_held effect hheld]
  | false =>
    rw [State.dataWrite_eq effect (State.busHeld_iff.mp hheld)]
    exact heffect.of_guarded rfl (.inr rfl)

theorem State.Governed.indexCycle {s : State} (h : s.Governed) (c : IndexCycle) : (s.indexCycle c).Governed := by
  unfold State.indexCycle
  split
  · exact h
  · cases c <;> exact h.of_guarded rfl (.inr rfl)

theorem State.Governed.wrongWidth {s : State} (h : s.Governed) (access : WrongWidth) : (s.wrongWidth access).Governed := by
  unfold State.wrongWidth
  split
  · exact h
  · cases access <;> exact h.of_guarded rfl (.inr rfl)

theorem State.Governed.dataRead {s : State} (h : s.Governed) : s.dataRead.Governed := by
  unfold State.dataRead State.advanceIndex
  split
  · exact h
  · split <;> exact h.of_guarded rfl (.inr rfl)

/-! ## The commands of the command register (R172) -/

theorem State.Governed.setStatus {s : State} (h : s.Governed) (status : CommandStatus) : (s.setStatus status).Governed :=
  h.of_guarded rfl (.inl rfl)

theorem State.Governed.joinCommand {s : State} (h : s.Governed) : s.joinCommand.Governed := by
  unfold State.joinCommand
  split
  · exact h.setStatus _
  · exact h.setStatus _
  all_goals
    rename_i hstate
    split
    · exact h.setStatus _
    · exact (h.beginJoin (by simp [hstate]) (by simp [hstate])).transmit.setStatus _

/-- A link taken DOWN from UP or JOINING has been torn down (R96, R98). -/
theorem State.Governed.down_of_teardown {s : State} (h : s.Governed) (fill : s.FillLaw) :
    { s.teardown with link := { s.teardown.link with state := .down } }.Governed := by
  refine State.governed_of_teardown (State.timerLaw_iff.mp h.timers).1 fill rfl ?_ ?_
  · dsimp only
    rw [State.teardown_bus, State.endAtTeardown_access]
  · dsimp only
    rw [State.teardown_link]
    exact LinkController.timed_of_stopped (by simp) (by simp) rfl rfl rfl

/-- A link that was neither UP nor JOINING goes DOWN with its timers at rest already (R96). -/
theorem State.Governed.down {s : State} (h : s.Governed) (hu : s.link.state ≠ .up) (hj : s.link.state ≠ .joining) :
    { s with link := { s.link with state := .down } }.Governed := by
  refine h.of_keeps (.of_link (fun hl => ?_) rfl rfl rfl) (fun hup => absurd hup hu) fun q =>
    ⟨q.entries, q.queue, q.noFilling, q.notPending, q.notSent, q.access⟩
  have hjoin : s.link.joinTimer.isRunning = false := by simpa [hj] using hl.join
  have hquiet : s.link.quietTimer.isRunning = false := by simpa [hu] using hl.quiet
  have hpending : s.link.joinPending = false := by simpa [hj] using hl.pending
  constructor <;> simp [hjoin, hquiet, hpending]

theorem State.Governed.stopCommand {s : State} (h : s.Governed) (fill : s.FillLaw) : s.stopCommand.Governed := by
  unfold State.stopCommand
  dsimp only
  split
  · exact (h.down_of_teardown fill).setStatus _
  · exact (h.down_of_teardown fill).setStatus _
  all_goals
    rename_i hstate
    exact (h.startSweep.down (by simp [hstate]) (by simp [hstate])).setStatus _

/-- Right after either reset nothing is under way (R91, R175). -/
theorem State.resetWith_governed (straps : BitVec 4) : (State.resetWith straps).Governed := by
  have hentry (t : Fin 4) : (State.resetWith straps).reads.entries[t] = ReadEntry.reset :=
    Vector.getElem_replicate t.isLt
  refine ⟨State.linkLaw_iff.mpr fun _ => ⟨fun t => ?_, rfl, fun i w => ?_, SyncState.noConfusion,
    SyncState.noConfusion, rfl⟩, State.timerLaw_iff.mpr ⟨fun t => ?_, ?_, ?_, ?_⟩⟩
  · rw [hentry]
    rfl
  · have hset : (State.resetWith straps).dir.get i = CacheSet.cleared := Vector.getElem_replicate i.isLt
    rw [hset]
    revert w
    decide
  · rw [hentry]
    exact ReadEntry.timed_of_free rfl rfl
  · simp [WriteQueue.Timed, State.resetWith, WriteQueue.reset]
  · exact SyncUnit.timed_of_stopped rfl SyncState.noConfusion
  · exact LinkController.timed_of_stopped (by simp [State.resetWith, LinkController.reset])
      (by simp [State.resetWith, LinkController.reset]) rfl rfl rfl

theorem State.softResetCommand_governed (s : State) : s.softResetCommand.Governed :=
  (State.resetWith_governed s.link.boardNumber).of_guarded rfl (.inl rfl)

theorem State.Governed.syncCommand {s : State} (h : s.Governed) : s.syncCommand.Governed := by
  unfold State.syncCommand
  split
  · rename_i hu
    split
    · exact h.setStatus _
    · exact h.setStatus _
    all_goals exact (h.transmit_of_up (State.keepsTimers_acceptBarrier s) hu).setStatus _
  all_goals exact h.setStatus _

theorem State.Governed.popCommand {s : State} (h : s.Governed) : s.popCommand.Governed := by
  unfold State.popCommand
  split
  · exact h.setStatus _
  · exact h.of_guarded rfl (.inl rfl)

theorem State.Governed.enableCommand {s : State} (h : s.Governed) : s.enableCommand.Governed := by
  simp only [State.enableCommand]
  split <;> exact h.of_guarded rfl (.inl rfl)

theorem State.Governed.commandRegister {s : State} (h : s.Governed) (fill : s.FillLaw) (v : Half) :
    (s.commandRegister v).Governed := by
  unfold State.commandRegister
  split
  · exact h.joinCommand
  · exact h.stopCommand fill
  · exact State.softResetCommand_governed s
  · exact h.startSweep.setStatus _
  · exact h.syncCommand
  · exact h.popCommand
  · exact (h.dropLine _).setStatus _
  · exact h.enableCommand
  all_goals exact h.of_guarded rfl (.inl rfl)

theorem State.Governed.writeWindowField {s : State} (h : s.Governed) (field : WindowField) (v : Half) :
    (s.writeWindowField field v).Governed := by
  simp only [State.writeWindowField]
  split
  · exact h
  · exact h.of_guarded rfl (.inl rfl)

theorem State.Governed.writeRegister {s : State} (h : s.Governed) (fill : s.FillLaw) (i : BitVec 7) (v : Half) :
    (s.writeRegister i v).Governed := by
  unfold State.writeRegister
  split
  case h_1 => exact h.commandRegister fill v
  case h_16 | h_17 | h_18 | h_19 | h_20 | h_21 => exact h.writeWindowField _ v
  all_goals exact h.of_guarded rfl (.inl rfl)

/-! ## The events of the part itself -/

theorem State.Governed.endTransmission {s : State} (h : s.Governed) : s.endTransmission.Governed := by
  unfold State.endTransmission
  split
  · exact State.Governed.transmit (h.of_guarded rfl (.inl rfl))
  · exact h

theorem State.Governed.expireResponse {s : State} (h : s.Governed) (fill : s.FillLaw) (tag : Fin 4) :
    (s.expireResponse tag).Governed := by
  unfold State.expireResponse
  split
  · rename_i w hw
    split
    · split
      · exact h.transmit_of_up (State.keepsTimers_resendRead tag w s) (h.up_of_work hw)
      · exact h.fail fill _
    · exact h
  · exact h

theorem State.Governed.expireWrite {s : State} (h : s.Governed) (fill : s.FillLaw) : s.expireWrite.Governed := by
  unfold State.expireWrite
  split
  · rename_i hrun
    split
    · exact h.transmit_of_up (State.keepsTimers_replay hrun) (h.up_of_writeTimer hrun)
    · exact h.fail fill _
  · exact h

theorem State.Governed.expireSync {s : State} (h : s.Governed) (fill : s.FillLaw) : s.expireSync.Governed := by
  unfold State.expireSync
  split
  · rename_i hrun
    split
    · exact h.transmit_of_up (State.keepsTimers_resendSync s) (h.up_of_syncTimer hrun)
    · exact h.fail fill _
  · exact h

/-- The join timer runs only while JOINING, so neither a resent JOIN nor a failed join leaves UP (R94, R101). -/
theorem State.Governed.expireJoin {s : State} (h : s.Governed) : s.expireJoin.Governed := by
  unfold State.expireJoin
  split
  · rename_i hrun
    have hnotUp : s.link.state ≠ .up := by simp [(h.linkTimed.join.mp hrun).1]
    split
    · refine (h.of_keeps (State.keepsTimers_resendJoin hrun) (fun hu => absurd hu hnotUp) fun q => ?_).transmit
      exact ⟨q.entries, q.queue, q.noFilling, q.notPending, q.notSent, q.access⟩
    · refine h.of_keeps (State.keepsTimers_failJoin hrun) (fun hu => absurd hu hnotUp) fun q => ?_
      exact ⟨by simpa [State.failJoin] using q.entries, by simpa [State.failJoin] using q.queue,
        State.noFilling_of_sets q.noFilling (by simp [State.failJoin]), by simpa [State.failJoin] using q.notPending,
        by simpa [State.failJoin] using q.notSent, by simpa [State.failJoin] using q.access⟩
  · exact h

theorem State.Governed.expireQuiet {s : State} (h : s.Governed) (fill : s.FillLaw) : s.expireQuiet.Governed := by
  unfold State.expireQuiet
  split
  · exact h.fail fill _
  · exact h

theorem State.Governed.deassertReset {s : State} (h : s.Governed) : s.deassertReset.Governed := by
  unfold State.deassertReset
  split
  · exact h.of_guarded rfl (.inl rfl)
  · exact h

/-! ## Every command (R91, R98) -/

/-- Every command's next state keeps both laws; a teardown leans on the law of the fill reference. -/
theorem State.Governed.exec {s : State} (h : s.Governed) (fill : s.FillLaw) :
    ∀ i : Instr, ∃ t, exec i s = .next t ∧ t.Governed
  | .resetInput straps => ⟨_, rfl, (State.resetWith_governed straps).of_guarded rfl (.inl rfl)⟩
  | .resetDeassertion => ⟨_, rfl, h.deassertReset⟩
  | .apertureRead c => ⟨_, rfl, h.apertureRead c⟩
  | .apertureWrite c data => ⟨_, rfl, h.apertureWrite c data⟩
  | .readResumesFreeEntry => ⟨_, rfl, h.resumeFreeEntry.transmit⟩
  | .writeResumesQueueSpace => ⟨_, rfl, h.resumeQueueSpace.transmit⟩
  | .orderedReadDispatch => ⟨_, rfl, h.resumeQueueEmpty.transmit⟩
  | .indexWrite c => ⟨_, rfl, h.indexCycle c⟩
  | .dataWrongWidth access => ⟨_, rfl, h.wrongWidth access⟩
  | .registerWrite v => ⟨_, rfl, h.dataWrite (h.writeRegister fill s.bus.index v)⟩
  | .windowFieldWrite field v => ⟨_, rfl, h.dataWrite (h.writeWindowField field v)⟩
  | .interruptFlagClear v => ⟨_, rfl, h.dataWrite (effect := State.writeFlags v) (h.of_guarded rfl (.inl rfl))⟩
  | .interruptEnableWrite v => ⟨_, rfl, h.dataWrite (effect := State.writeEnables v) (h.of_guarded rfl (.inl rfl))⟩
  | .join => ⟨_, rfl, h.dataWrite h.joinCommand⟩
  | .stop => ⟨_, rfl, h.dataWrite (h.stopCommand fill)⟩
  | .softReset => ⟨_, rfl, h.dataWrite (State.softResetCommand_governed s)⟩
  | .sweep => ⟨_, rfl, h.dataWrite (effect := State.sweepCommand) (h.startSweep.setStatus _)⟩
  | .sync => ⟨_, rfl, h.dataWrite h.syncCommand⟩
  | .popRecord => ⟨_, rfl, h.dataWrite h.popCommand⟩
  | .invalidateLine => ⟨_, rfl, h.dataWrite (effect := State.invalidateCommand) ((h.dropLine _).setStatus _)⟩
  | .enableWindow => ⟨_, rfl, h.dataWrite h.enableCommand⟩
  | .disableWindow => ⟨_, rfl, h.dataWrite (effect := State.disableCommand) (h.of_guarded rfl (.inl rfl))⟩
  | .clearCounters => ⟨_, rfl, h.dataWrite (effect := State.clearCountersCommand) (h.of_guarded rfl (.inl rfl))⟩
  | .clearOverflow => ⟨_, rfl, h.dataWrite (effect := State.clearOverflowCommand) (h.of_guarded rfl (.inl rfl))⟩
  | .unknownCommand v => ⟨_, rfl, h.dataWrite (h.commandRegister fill v)⟩
  | .welcome first => ⟨_, rfl, h.receive fill (.welcome first)⟩
  | .lineData tag issue status data => ⟨_, rfl, h.receive fill (.lineData tag issue status data)⟩
  | .wordData tag issue status data => ⟨_, rfl, h.receive fill (.wordData tag issue status data)⟩
  | .writeAck seq status total => ⟨_, rfl, h.receive fill (.writeAck seq status total)⟩
  | .syncAck issue => ⟨_, rfl, h.receive fill (.syncAck issue)⟩
  | .notice seq line => ⟨_, rfl, h.receive fill (.notice seq line)⟩
  | .tick next => ⟨_, rfl, h.receive fill (.tick next)⟩
  | .restart => ⟨_, rfl, h.receive fill .restart⟩
  | .corruptFrame bytes => ⟨_, rfl, h.receiveBytes fill bytes⟩
  | .frameWhileDown bytes => ⟨_, rfl, h.receiveBytes fill bytes⟩
  | .transmissionEnd => ⟨_, rfl, h.endTransmission⟩
  | .responseTimerExpiry tag => ⟨_, rfl, h.expireResponse fill tag⟩
  | .writeTimerExpiry => ⟨_, rfl, h.expireWrite fill⟩
  | .syncTimerExpiry => ⟨_, rfl, h.expireSync fill⟩
  | .joinTimerExpiry => ⟨_, rfl, h.expireJoin⟩
  | .quietTimerExpiry => ⟨_, rfl, h.expireQuiet fill⟩
  | .sweepStep => ⟨_, rfl, h.stepSweep⟩
  | .dataRead => ⟨_, rfl, h.dataRead⟩

/-- Settles O12: an idle step changes nothing, and every command keeps both laws. -/
theorem linkLawKept : Obligations.LinkLawKept := by
  intro s t laws hstep
  unfold step at hstep
  split at hstep
  · cases hstep
    exact ⟨laws.link, laws.timers⟩
  · rename_i c rest _
    have hgoverned : { s with pending := rest }.Governed := ⟨laws.link, laws.timers⟩
    obtain ⟨u, hu, kept⟩ := hgoverned.exec laws.fill c
    cases hu.symm.trans hstep
    exact ⟨kept.link, kept.timers⟩

end Sys2Proof.Machine
end

section
/-! SUPPORT. The commands and events of the link: JOIN and STOP, a WELCOME, the frames that the receiver turns away, a join that
ends in failure, and the straps at the end of a reset. -/

namespace Sys2Proof.Machine

variable {s : State}

/-! ## The reset input (R92) -/

/-- Settles O5: the deassertion is its own definition, and it undoes what an assertion with straps 0 makes of the state after
reset. -/
theorem deassertionLatchesStraps : Obligations.DeassertionLatchesStraps :=
  ⟨fun _ => rfl, State.reset.assertReset 0#4, rfl, rfl⟩

/-! ## JOIN (R93) -/

theorem State.joinCommand_bus (s : State) : s.joinCommand.bus = s.bus := by
  unfold State.joinCommand
  split
  · rfl
  · rfl
  all_goals split <;> simp

/-- The command's DATA write around its effect (R168). -/
theorem exec_join (hcan : s.CanCycle) : exec .join s = .next { s.joinCommand with bus := s.bus.afterDataWrite } :=
  congrArg Host.Outcome.next (State.dataWrite_eq_of_bus _ hcan s.joinCommand_bus)

theorem State.joinCommand_underWay (h : s.link.state = .up ∨ s.link.state = .joining) :
    s.joinCommand = s.setStatus .wrongState := by
  rcases h with h | h <;> simp only [State.joinCommand, h]

theorem State.joinCommand_noIdentity (h : s.link.state = .down ∨ s.link.state = .failed) (hboard : s.link.boardNumber = 0#4) :
    s.joinCommand = s.setStatus .noIdentity := by
  rcases h with h | h <;> simp only [State.joinCommand, h, if_pos hboard]

theorem State.joinCommand_begins (h : s.link.state = .down ∨ s.link.state = .failed) (hboard : s.link.boardNumber ≠ 0#4) :
    s.joinCommand = s.beginJoin.transmit.setStatus .done := by
  rcases h with h | h <;> simp only [State.joinCommand, h, if_neg hboard]

/-- Settles O26: the link's state and the board number decide, and a JOIN that is begun is the transmitter's first choice. -/
theorem joinCommandOutcomes : Obligations.JoinCommandOutcomes := by
  intro s hcan
  rw [exec_join hcan]
  refine ⟨fun hstate => ?_, fun hstate => ⟨fun hboard => ?_, fun hboard => ⟨fun f htx => ?_, fun htx => ?_⟩⟩⟩
  · rw [State.joinCommand_underWay hstate]
    rfl
  · rw [State.joinCommand_noIdentity hstate hboard]
    rfl
  · rw [State.joinCommand_begins hstate hboard, State.transmit_of_noOffer fun hfree => ?_]
    · rfl
    · rw [State.beginJoin_link, htx] at hfree
      cases hfree
  · rw [State.joinCommand_begins hstate hboard, State.transmit_join (s := s.beginJoin) hcan.2 htx rfl]
    rfl

/-! ## A join that ends in failure (R101) -/

theorem State.expireJoin_of_limit (hrun : s.link.joinTimer.isRunning = true)
    (hlimit : s.settings.retryLimit.toNat ≤ s.link.joinRetries.toNat) : s.expireJoin = s.failJoin := by
  rw [State.expireJoin, if_pos hrun, if_neg (Nat.not_lt.mpr hlimit)]

/-- Settles O51: without retries left the expiry is the join's failure, which touches the link, the records and LINK alone. -/
theorem joinTimeoutEndsTheJoin : Obligations.JoinTimeoutEndsTheJoin :=
  fun _ hrun hlimit => congrArg Host.Outcome.next (State.expireJoin_of_limit hrun hlimit)

/-! ## STOP (R96, R98) -/

theorem Directory.eq_of_get {d d' : Directory} (hget : ∀ i, d.get i = d'.get i) (hhold : d.hold = d'.hold) : d = d' := by
  cases d with
  | mk sets hold =>
    cases d' with
    | mk sets' hold' =>
      have hsets : sets = sets' := Vector.ext fun k hk => by
        simpa [Directory.get, Nat.mod_eq_of_lt hk] using hget (BitVec.ofNat 8 k)
      exact congrArg₂ Directory.mk hsets hhold

/-- A sweep start with no entry OUTSTANDING and no way FILLING changes neither the directory nor the read table (R81). -/
theorem State.Quiescent.startSweep_eq (q : s.Quiescent) :
    s.startSweep = { s with sweep := s.startSweep.sweep, freeCount := s.startSweep.freeCount } := by
  have hdir : s.startSweep.dir = s.dir :=
    Directory.eq_of_get (State.get_startSweep_of_noFilling q.noFilling) s.startSweep_hold
  have hentries : s.startSweep.reads.entries = s.reads.entries :=
    Vector.ext fun k hk => State.getElem_startSweep_of_free (tag := ⟨k, hk⟩) (q.entries ⟨k, hk⟩)
  have hreads : s.startSweep.reads = s.reads :=
    congrArg₂ ReadTable.mk hentries s.startSweep_sendList
  rw [State.startSweep_frame]
  simp only [hdir, hreads]

theorem State.stopCommand_of_join (h : s.link.state = .up ∨ s.link.state = .joining) :
    s.stopCommand = { s.teardown with link := { s.teardown.link with state := .down } }.setStatus .done := by
  rcases h with h | h <;> simp only [State.stopCommand, h]

theorem State.stopCommand_at_rest (h : s.link.state = .down ∨ s.link.state = .failed) :
    s.stopCommand = { s.startSweep with link := { s.startSweep.link with state := .down } }.setStatus .done := by
  rcases h with h | h <;> simp only [State.stopCommand, h]

theorem State.endAtTeardown_of_canCycle (h : s.CanCycle) : s.endAtTeardown = s := by
  simp only [State.endAtTeardown, h.1]

theorem State.stopCommand_bus (h : s.CanCycle) : s.stopCommand.bus = s.bus := by
  have hteardown : s.teardown.bus = s.bus := by rw [State.teardown_bus, State.endAtTeardown_of_canCycle h]
  unfold State.stopCommand
  cases s.link.state <;> simp [hteardown]

theorem exec_stop (hcan : s.CanCycle) : exec .stop s = .next { s.stopCommand with bus := s.bus.afterDataWrite } :=
  congrArg Host.Outcome.next (State.dataWrite_eq_of_bus _ hcan (State.stopCommand_bus hcan))

/-- Teardown says nothing of the link controller, the command unit and the bus interface that are left. -/
theorem State.TornDown.with_command {t : State} (h : State.TornDown s t) (link : LinkController) (cmd : CommandUnit)
    (bus : BusInterface) : State.TornDown s { t with link := link, cmd := cmd, bus := bus } :=
  { h with }

/-- Settles O27: from UP and JOINING the teardown, whose parts are known; at rest a sweep start that finds nothing to release. -/
theorem stopTakesTheLinkDown : Obligations.StopTakesTheLinkDown := by
  intro s hcan fill _ link
  refine ⟨_, exec_stop hcan, ?_⟩
  by_cases hstate : s.link.state = .up ∨ s.link.state = .joining
  · have hrest : ¬ (s.link.state = .down ∨ s.link.state = .failed) := by
      rcases hstate with h | h <;> simp [h]
    have torn := (State.tornDown_teardown fill).with_command { s.teardown.link with state := .down }
      { s.cmd with status := .done } s.bus.afterDataWrite
    rw [State.stopCommand_of_join hstate]
    simpa [State.setStatus, State.teardown_link, State.teardown_irq, State.endSync_irq, State.teardown_sweep, hrest] using
      fun _ => torn
  · have hrest : s.link.state = .down ∨ s.link.state = .failed := by
      cases h : s.link.state <;> simp [h] at hstate ⊢
    have hquiet : s.Quiescent := State.linkLaw_iff.mp link fun h => hstate (.inl h)
    rw [State.stopCommand_at_rest hrest, hquiet.startSweep_eq]
    simp [State.setStatus, State.startSweep_sweep, hstate]

/-! ## A WELCOME (R95, R106) -/

/-- The arrival of an intact frame is its reception (R105). -/
theorem exec_arrivalOf (f : InFrame) (s : State) : exec (arrivalOf f) s = .next (s.receive f) := by
  cases f <;> rfl

/-- Settles O37: JOINING hands a WELCOME to the join, UP counts it as stale. -/
theorem welcomeBringsTheLinkUp : Obligations.WelcomeBringsTheLinkUp := by
  intro first s hr
  refine ⟨fun hj => ?_, fun hu => ?_⟩
  · exact congrArg Host.Outcome.next (State.receive_joining (.welcome first) hr hj)
  · exact congrArg Host.Outcome.next (State.receive_up (.welcome first) hr hu)

/-! ## What the receiver turns away (R105, R106) -/

theorem State.takeFrameJoining_stale {f : InFrame} (h : ∀ first, f ≠ .welcome first) :
    s.takeFrameJoining f = s.bump .staleFrames := by
  cases f with
  | welcome first => exact absurd rfl (h first)
  | lineData | wordData | writeAck | syncAck | notice | tick | restart => rfl

theorem State.receive_at_rest (f : InFrame) (h : s.link.state = .down ∨ s.link.state = .failed) : s.receive f = s := by
  unfold State.receive
  rcases h with h | h <;> simp [h]

theorem State.receiveBytes_at_rest (bytes : List Byte) (h : s.link.state = .down ∨ s.link.state = .failed) :
    s.receiveBytes bytes = s := by
  unfold State.receiveBytes
  rcases h with h | h <;> simp [h]

theorem State.receiveBytes_checked (bytes : List Byte) (hr : s.pins.resetAsserted = false)
    (h : s.link.state = .up ∨ s.link.state = .joining) :
    s.receiveBytes bytes =
      match Frames.parse bytes with
      | none => s.bump .corruptFrames
      | some f => s.receive f := by
  unfold State.receiveBytes
  rcases h with h | h <;> simp only [hr, h] <;> rfl

/-- Settles O38: by the link's state a frame's bytes are checked or not, and a frame is stale or not. -/
theorem receiverTurnsFramesAway : Obligations.ReceiverTurnsFramesAway := by
  intro s hr
  refine ⟨fun hstate bytes => ⟨fun hcorrupt => ?_, fun f hf => ?_⟩, fun hj f hf => ?_,
    fun hstate => ⟨fun f => ?_, fun bytes => ?_⟩⟩
  · have hbytes := State.receiveBytes_checked bytes hr hstate
    rw [hcorrupt] at hbytes
    exact congrArg Host.Outcome.next hbytes
  · have hbytes := State.receiveBytes_checked bytes hr hstate
    rw [hf] at hbytes
    rw [exec_arrivalOf]
    exact ⟨congrArg Host.Outcome.next hbytes, congrArg Host.Outcome.next hbytes⟩
  · rw [exec_arrivalOf, State.receive_joining f hr hj, State.takeFrameJoining_stale hf]
    rfl
  · rw [exec_arrivalOf, State.receive_at_rest f hstate]
  · have hbytes := State.receiveBytes_at_rest bytes hstate
    exact ⟨congrArg Host.Outcome.next hbytes, congrArg Host.Outcome.next hbytes⟩

end Sys2Proof.Machine
end

section
/-! SUPPORT. The transmitter's choice by rank (R103): which frame it takes from what is offered, and what that changes. -/

namespace Sys2Proof.Machine

variable {s : State}

/-! ## The write queue's offer (R56) -/

/-- The first entry of a list that meets a condition stands behind those that do not. -/
theorem findIdx?_split {p : WriteEntry → Bool} {pre post : List WriteEntry} {e : WriteEntry} (hpre : ∀ f ∈ pre, p f = false)
    (he : p e = true) : (pre ++ e :: post).findIdx? p = some pre.length := by
  have hnone : pre.findIdx? p = none := List.findIdx?_eq_none_iff.mpr hpre
  simp [List.findIdx?_append, hnone, List.findIdx?_cons, he]

/-- The oldest SENT entry with its replay flag set is offered (R56). -/
theorem writeOffer_replay {pre post : List WriteEntry} {e : WriteEntry} {q : Seq} (hpre : ∀ f ∈ pre, f.isReplay = false)
    (he : e.state = .sent q true) : writeOffer (pre ++ e :: post) = some pre.length := by
  simp only [writeOffer, findIdx?_split hpre (by rw [WriteEntry.isReplay, he])]

/-- Without a replay the oldest QUEUED entry is offered (R56). -/
theorem writeOffer_queued {pre post : List WriteEntry} {e : WriteEntry} (hreplay : ∀ f ∈ pre ++ e :: post, f.isReplay = false)
    (hpre : ∀ f ∈ pre, f.isSent = true) (he : e.state = .queued) : writeOffer (pre ++ e :: post) = some pre.length := by
  have hnone : (pre ++ e :: post).findIdx? WriteEntry.isReplay = none := List.findIdx?_eq_none_iff.mpr hreplay
  have hqueued : ∀ f ∈ pre, f.isQueued = false := fun f hf => by simpa [WriteEntry.isSent] using hpre f hf
  simp only [writeOffer, hnone, findIdx?_split hqueued (by rw [WriteEntry.isQueued, he])]

/-! ## What is taken, by rank (R103) -/

theorem State.transmit_read {tag : Fin 4} {rest : List (Fin 4)} (hr : s.pins.resetAsserted = false)
    (hfree : s.link.tx = .free) (hjoin : s.link.joinPending = false) (hsend : s.reads.sendList = tag :: rest) :
    s.transmit = s.takeRead tag rest := by
  simp [State.transmit, hr, hfree, hjoin, hsend]

theorem State.transmit_write {i : Nat} (hr : s.pins.resetAsserted = false) (hfree : s.link.tx = .free)
    (hjoin : s.link.joinPending = false) (hsend : s.reads.sendList = []) (hoffer : writeOffer s.wq.entries = some i) :
    s.transmit = s.takeWrite i := by
  simp [State.transmit, hr, hfree, hjoin, hsend, hoffer]

theorem State.transmit_sync (hr : s.pins.resetAsserted = false) (hfree : s.link.tx = .free)
    (hjoin : s.link.joinPending = false) (hsend : s.reads.sendList = []) (hoffer : writeOffer s.wq.entries = none)
    (hready : s.sync.ready = true) : s.transmit = s.takeSync := by
  simp [State.transmit, hr, hfree, hjoin, hsend, hoffer, hready]

theorem State.takeRead_of_work {tag : Fin 4} {w : ReadWork} (rest : List (Fin 4)) (hw : (s.reads.entries[tag]).work = some w) :
    s.takeRead tag rest =
      { s with
        reads :=
          { entries := s.reads.entries.set tag.val
              { s.reads.entries[tag] with work := some { w with phase := .inFlight }, timer := s.startTimer } tag.isLt
            sendList := rest }
        link := { s.link with tx := .sending (readFrame tag (s.reads.entries[tag]).issue w.request) } } := by
  simp only [State.takeRead, hw]

/-- A replayed entry keeps its number and loses its flag (R56). -/
theorem State.takeWrite_replay {pre post : List WriteEntry} {e : WriteEntry} {q : Seq}
    (hentries : s.wq.entries = pre ++ e :: post) (he : e.state = .sent q true) :
    s.takeWrite pre.length =
      { s with
        wq := { s.wq with entries := pre ++ { e with state := .sent q false } :: post }
        link := { s.link with tx := .sending (e.frame q) } } := by
  simp [State.takeWrite, hentries, he]

/-- A first send gets NWS, and the sync unit hears of it if it is the mark's (R56, R61, R147). -/
theorem State.takeWrite_queued {pre post : List WriteEntry} {e : WriteEntry}
    (hentries : s.wq.entries = pre ++ e :: post) (he : e.state = .queued) :
    s.takeWrite pre.length =
      { s with
        wq := { s.wq with
          entries := pre ++ { e with state := .sent s.wq.nws false } :: post
          nws := s.wq.nws + 1#8
          lastAssigned := some s.wq.nws
          timer := if s.wq.entries.any WriteEntry.isSent then s.wq.timer else s.startTimer }
        link := { s.link with tx := .sending (e.frame s.wq.nws) }
        sync := if e.mark then s.sync.markSent s.wq.nws else s.sync } := by
  have hget : s.wq.entries[pre.length]? = some e := by simp [hentries]
  have hset (e' : WriteEntry) : s.wq.entries.set pre.length e' = pre ++ e' :: post := by simp [hentries]
  simp only [State.takeWrite, hget, he, hset]
  split <;> rfl

/-- Settles O36: at each rank the frame is the first offered, and the take is the one that its block describes. -/
theorem transmitterTakesByRank : Obligations.TransmitterTakesByRank := by
  intro s hr
  refine ⟨fun f hf => ⟨State.transmit_of_noOffer (by simp [hf]), ?_⟩, fun hfree => ⟨fun hnone => ?_, fun hjoin => ?_,
    fun hjoin => ⟨fun tag rest w hsend hw => ?_, fun hsend => ⟨fun pre post e q hentries hpre he => ?_, fun hreplay =>
    ⟨fun pre post e hentries hpre he => ?_, fun hsent hpending hmark => ?_⟩⟩⟩⟩⟩
  · refine congrArg Host.Outcome.next ?_
    simp only [State.endTransmission, hf]
  · exact State.transmit_of_noOffer fun _ => hnone
  · exact State.transmit_join hr hfree hjoin
  · rw [State.transmit_read hr hfree hjoin hsend, State.takeRead_of_work rest hw]
    cases w.request <;> rfl
  · rw [State.transmit_write hr hfree hjoin hsend (hentries ▸ writeOffer_replay hpre he),
      State.takeWrite_replay hentries he]
    rfl
  · rw [ofNat_toNat_succ, State.transmit_write hr hfree hjoin hsend
      (hentries ▸ writeOffer_queued (hentries ▸ hreplay) hpre he), State.takeWrite_queued hentries he]
    rfl
  · have hready : s.sync.ready = true := by simp [SyncUnit.ready, hpending, hmark]
    rw [State.transmit_sync hr hfree hjoin hsend ((writeOffer_eq_none _).mpr ⟨hreplay, hsent⟩) hready]
    rfl

end Sys2Proof.Machine
end

section
/-! SUPPORT. Inbound frames (R176): how each kind's bytes read, field by field, and that the bytes the store sends read back. -/

namespace Sys2Proof.Frames

/-! ## The fields of a byte (R176) -/

theorem tagOf_eq {x : Byte} {tag : Fin 4} (h : tag.val = x.toNat % 4) : tagOf x = tag := by
  apply Fin.ext
  simp [tagOf, h]

theorem issueOf_eq {x : Byte} {issue : Issue} (h : issue.toNat = x.toNat / 4 % 4) : issueOf x = issue := by
  apply BitVec.eq_of_toNat_eq
  simp [issueOf, h, Nat.shiftRight_eq_div_pow]

theorem statusOf_eq {y : Byte} {status : Status}
    (h : status = (match y.toNat % 4 with | 0 => .ok | 1 => .duplicate | 2 => .noMemory | _ => .prot)) :
    statusOf y = status := by
  have hbits : (y.extractLsb' 0 2).toNat = y.toNat % 4 := by simp
  rw [h, statusOf, hbits] <;> rfl

theorem barrierIssue_eq (x : Byte) : x.extractLsb' 0 2 = BitVec.ofNat 2 (x.toNat % 4) := by
  apply BitVec.eq_of_toNat_eq
  simp

/-! ## A line address in three bytes (R176) -/

theorem toNat_append_eq {n m : Nat} (x : BitVec n) (y : BitVec m) : (x ++ y).toNat = x.toNat * 2 ^ m + y.toNat := by
  rw [BitVec.toNat_append, ← Nat.shiftLeft_add_eq_or_of_lt y.isLt, Nat.shiftLeft_eq]

/-- Least significant byte first, bit 7 of the third ignored. -/
theorem lineOfBytes_toNat (z u v : Byte) :
    (lineOfBytes z u v).toNat = z.toNat + 0x100 * u.toNat + 0x10000 * (v.toNat % 0x80) := by
  rw [lineOfBytes, toNat_append_eq, toNat_append_eq, BitVec.extractLsb'_toNat, Nat.shiftRight_zero]
  omega

theorem lineOfBytes_eq (z u v : Byte) :
    lineOfBytes z u v = BitVec.ofNat 23 (z.toNat + 0x100 * u.toNat + 0x10000 * (v.toNat % 0x80)) := by
  rw [← lineOfBytes_toNat, BitVec.ofNat_toNat, BitVec.setWidth_eq]

theorem lineOfBytes_lineBytes (l : LineAddr) :
    lineOfBytes (l.extractLsb' 0 8) (l.extractLsb' 8 8) (0#1 ++ l.extractLsb' 16 7) = l := by
  apply BitVec.eq_of_toNat_eq
  have hl := l.isLt
  rw [lineOfBytes_toNat, toNat_append_eq]
  simp only [BitVec.extractLsb'_toNat, Nat.shiftRight_eq_div_pow]
  simp only [BitVec.toNat_ofNat]
  omega

/-! ## Fields as the store writes them (R176) -/

theorem tagOf_tagIssue (tag : Fin 4) (issue : Issue) : tagOf (tagIssue tag issue) = tag := by
  revert tag issue
  decide

theorem issueOf_tagIssue (tag : Fin 4) (issue : Issue) : issueOf (tagIssue tag issue) = issue := by
  revert tag issue
  decide

theorem statusOf_statusCode (status : Status) : statusOf (statusCode status) = status := by
  cases status <;> rfl

/-! ## The reading of each kind (R176) -/

theorem getElem_data (data : Line) (c d : Byte) (k : Nat) (hk : k < 32) :
    (data.toList ++ [c, d]).getD k 0#8 = data[k] := by
  rw [List.getD_eq_getElem?_getD, List.getElem?_append_left (by simpa using hk)]
  simp [hk]

theorem fieldsOf_lineData (t st : Byte) (data : Line) (c d : Byte) :
    fieldsOf (0x21#8 :: t :: st :: (data.toList ++ [c, d])) =
      some (.lineData (tagOf t) (issueOf t) (statusOf st) data) := by
  have hlength : (data.toList ++ [c, d]).length = 34 := by simp
  have hdata : (Vec.tabulate fun i => (data.toList ++ [c, d]).getD i 0#8) = data :=
    Vector.ext fun k hk => by rw [Vec.getElem_tabulate, getElem_data data c d k hk]
  exact (if_pos hlength).trans (by rw [hdata])

theorem fieldsOf_wordData (t st : Byte) (group : Vector Byte 4) (c d : Byte) :
    fieldsOf (0x22#8 :: t :: st :: (group.toList ++ [c, d])) =
      some (.wordData (tagOf t) (issueOf t) (statusOf st) group) := by
  obtain ⟨⟨bytes⟩, hbytes⟩ := group
  match bytes, hbytes with
  | [_, _, _, _], _ => rfl

/-- Bytes that read as a frame have their kind's first byte and length. -/
theorem kind_of_fieldsOf {k : Byte} {rest : List Byte} {f : InFrame} (h : fieldsOf (k :: rest) = some f) :
    (k.toNat, (k :: rest).length) ∈
      [(0x20, 4), (0x21, 37), (0x22, 9), (0x23, 6), (0x24, 4), (0x25, 7), (0x26, 4), (0x27, 3)] := by
  simp only [fieldsOf] at h
  split at h
  case h_2 =>
    split at h
    · rename_i hk hlength
      simp [hk, hlength]
    · cases h
  case h_9 => cases h
  all_goals
    rename_i hk
    simp [hk]

theorem parse_of_crc {bytes : List Byte} (h : crc bytes = 0#16) : parse bytes = fieldsOf bytes :=
  if_pos h

/-- Bytes without a kind's first byte and length are refused, whatever their CRC (R105). -/
theorem parse_of_wrongKind {k : Byte} {rest : List Byte}
    (h : (k.toNat, (k :: rest).length) ∉
      [(0x20, 4), (0x21, 37), (0x22, 9), (0x23, 6), (0x24, 4), (0x25, 7), (0x26, 4), (0x27, 3)]) :
    parse (k :: rest) = none := by
  cases hfields : fieldsOf (k :: rest) with
  | none => exact (congrArg (fun f => if crc (k :: rest) = 0#16 then f else none) hfields).trans (ite_self none)
  | some f => exact absurd (kind_of_fieldsOf hfields) h

/-- What the store sends reads back, every field at every value (R176). -/
theorem parse_inBytes (f : InFrame) : parse (inBytes f) = some f := by
  cases f with
  | welcome first => exact parse_withCrc _
  | lineData tag issue status data =>
    refine (parse_withCrc _).trans ((fieldsOf_lineData _ _ data _ _).trans ?_)
    rw [tagOf_tagIssue, issueOf_tagIssue, statusOf_statusCode]
  | wordData tag issue status data =>
    refine (parse_withCrc _).trans ((fieldsOf_wordData _ _ data _ _).trans ?_)
    rw [tagOf_tagIssue, issueOf_tagIssue, statusOf_statusCode]
  | writeAck seq status total =>
    refine (parse_withCrc _).trans (congrArg (fun st => some (InFrame.writeAck seq st total)) ?_)
    exact statusOf_statusCode status
  | syncAck issue =>
    refine (parse_withCrc _).trans (congrArg (fun i => some (InFrame.syncAck i)) ?_)
    revert issue
    decide
  | notice seq line =>
    refine (parse_withCrc _).trans (congrArg (fun l => some (InFrame.notice seq l)) ?_)
    exact lineOfBytes_lineBytes line
  | tick next => exact parse_withCrc _
  | restart => exact parse_withCrc _

/-- Settles O14: each kind reads by its own row of R176, and bytes that read as a frame have a kind's first byte and length. -/
theorem inboundFramesReadBackAndOthersAreRefused : Obligations.InboundFramesReadBackAndOthersAreRefused := by
  refine ⟨parse_inBytes, fun bytes h => if_neg h, fun k rest h => parse_of_wrongKind h, ?_⟩
  intro x y z u v c d line group tag issue status htag hissue hstatus
  rw [← tagOf_eq htag, ← issueOf_eq hissue, ← statusOf_eq hstatus, ← barrierIssue_eq, ← lineOfBytes_eq]
  refine ⟨parse_of_crc, fun h => ?_, fun h => ?_, parse_of_crc, parse_of_crc, parse_of_crc, parse_of_crc, parse_of_crc⟩
  · exact (parse_of_crc h).trans (fieldsOf_lineData x y line c d)
  · exact (parse_of_crc h).trans (fieldsOf_wordData x y group c d)

end Sys2Proof.Frames
end

section
/-! SUPPORT. The window table's registers and commands: what a write of a field register makes of an entry (R114), and what
ENABLE_WINDOW and DISABLE_WINDOW make of the table (R116, R117). -/

namespace Sys2Proof.Machine

variable {s : State}

/-! ## A base with one half replaced (R113, R114) -/

/-- A page whose low four bits come from a low-half register: of the value written, bits 11..0 are not kept. -/
theorem pageBase_replaceLow {n : Nat} (page : BitVec (n + 4)) (v : Half) :
    (page.extractLsb' 4 n ++ v.extractLsb' 12 4).toNat * 0x1000 =
      page.toNat * 0x1000 / 0x10000 * 0x10000 + v.toNat / 0x1000 * 0x1000 := by
  have hpage : page.toNat / 2 ^ 4 % 2 ^ n = page.toNat / 2 ^ 4 :=
    Nat.mod_eq_of_lt (Nat.div_lt_of_lt_mul (by rw [← Nat.pow_add']; exact page.isLt))
  have hv := v.isLt
  rw [Frames.toNat_append_eq]
  simp only [BitVec.extractLsb'_toNat, Nat.shiftRight_eq_div_pow, hpage]
  omega

/-- A page whose bits above the low four come from a high-half register. -/
theorem pageBase_replaceHigh {n : Nat} (page : BitVec (n + 4)) (v : Half) :
    (v.extractLsb' 0 n ++ page.extractLsb' 0 4).toNat * 0x1000 =
      v.toNat % 2 ^ n * 0x10000 + page.toNat * 0x1000 % 0x10000 := by
  rw [Frames.toNat_append_eq]
  simp only [BitVec.extractLsb'_toNat, Nat.shiftRight_zero]
  omega

/-! ## A field write (R114) -/

@[simp] theorem Window.withField_enabled (w : Window) (v : Half) (field : WindowField) :
    (w.withField v field).enabled = w.enabled := by
  cases field <;> rfl

theorem State.writeWindowField_of_enabled (field : WindowField) (v : Half) (h : (s.windows[s.sel.window]).enabled = true) :
    s.writeWindowField field v = s :=
  if_pos h

theorem State.writeWindowField_of_disabled (field : WindowField) (v : Half)
    (h : (s.windows[s.sel.window]).enabled = false) :
    s.writeWindowField field v = s.setWindow s.sel.window ((s.windows[s.sel.window]).withField v field) :=
  if_neg (by rw [h]; exact Bool.false_ne_true)

theorem State.writeWindowField_bus (field : WindowField) (v : Half) : (s.writeWindowField field v).bus = s.bus := by
  cases h : (s.windows[s.sel.window]).enabled with
  | true => rw [State.writeWindowField_of_enabled field v h]
  | false => rw [State.writeWindowField_of_disabled field v h, State.setWindow_bus]

theorem exec_windowFieldWrite (field : WindowField) (v : Half) (hcan : s.CanCycle) :
    exec (.windowFieldWrite field v) s = .next { s.writeWindowField field v with bus := s.bus.afterDataWrite } :=
  congrArg Host.Outcome.next (State.dataWrite_eq_of_bus _ hcan (State.writeWindowField_bus field v))

/-- Settles O24: an enabled entry stays; a disabled one becomes `withField`, read item by item and field by field. -/
theorem windowFieldWriteNeedsDisabledEntry : Obligations.WindowFieldWriteNeedsDisabledEntry := by
  intro field v s hcan
  rw [exec_windowFieldWrite field v hcan]
  refine ⟨fun henabled => ?_, fun hdisabled =>
    ⟨(s.windows[s.sel.window]).withField v field, ?_, ?_, ?_, ?_, ?_, ?_⟩⟩
  · rw [State.writeWindowField_of_enabled field v henabled]
  · rw [State.writeWindowField_of_disabled field v hdisabled]
    rfl
  · rw [Window.withField_enabled, hdisabled]
  · cases field with
    | localLow => exact pageBase_replaceLow _ v
    | localHigh => exact pageBase_replaceHigh _ v
    | sizeCode | remoteLow | remoteHigh | attributes => rfl
  · cases field with
    | remoteLow => exact pageBase_replaceLow _ v
    | remoteHigh => exact pageBase_replaceHigh _ v
    | localLow | localHigh | sizeCode | attributes => rfl
  · cases field <;> rfl
  · cases field <;> rfl

/-! ## ENABLE_WINDOW and DISABLE_WINDOW (R116, R117) -/

/-- The three checks of R116. -/
theorem Window.usable_iff (w : Window) :
    w.usable = true ↔
      w.sizeCode.toNat ≤ 12 ∧ w.localBase % w.size = 0 ∧ w.localBase + w.size ≤ 0x4000000 ∧
      w.remoteBase % w.size = 0 ∧ w.remoteBase + w.size ≤ 0x10000000 := by
  simp only [Window.usable, Bool.and_eq_true, decide_eq_true_eq, beq_iff_eq, and_assoc]

theorem State.enableCommand_of_usable (h : (s.windows[s.cmd.windowArg]).usable = true) :
    s.enableCommand =
      (s.setWindow s.cmd.windowArg { s.windows[s.cmd.windowArg] with enabled := true }).setStatus .done :=
  if_pos h

theorem State.enableCommand_of_unusable (h : ¬ (s.windows[s.cmd.windowArg]).usable = true) :
    s.enableCommand = s.setStatus .badArgument :=
  if_neg h

theorem State.enableCommand_bus : s.enableCommand.bus = s.bus := by
  by_cases h : (s.windows[s.cmd.windowArg]).usable = true
  · rw [State.enableCommand_of_usable h, State.setStatus_bus, State.setWindow_bus]
  · rw [State.enableCommand_of_unusable h, State.setStatus_bus]

theorem exec_enableWindow (hcan : s.CanCycle) :
    exec .enableWindow s = .next { s.enableCommand with bus := s.bus.afterDataWrite } :=
  congrArg Host.Outcome.next (State.dataWrite_eq_of_bus _ hcan State.enableCommand_bus)

theorem exec_disableWindow (hcan : s.CanCycle) :
    exec .disableWindow s = .next { s.disableCommand with bus := s.bus.afterDataWrite } :=
  congrArg Host.Outcome.next (State.dataWrite_eq_of_bus (effect := State.disableCommand) hcan rfl)

/-- Settles O33: the checks decide between the two ends of ENABLE_WINDOW; DISABLE_WINDOW makes none. -/
theorem windowCommandsSetTheEnabledFlag : Obligations.WindowCommandsSetTheEnabledFlag := by
  intro s hcan
  rw [exec_enableWindow hcan, exec_disableWindow hcan]
  refine ⟨fun hcode hlocal hlocalEnd hremote hremoteEnd => ?_, fun hfails => ?_, rfl⟩
  · have husable := (Window.usable_iff _).mpr ⟨hcode, hlocal, hlocalEnd, hremote, hremoteEnd⟩
    rw [State.enableCommand_of_usable husable]
    rfl
  · rw [State.enableCommand_of_unusable fun husable => hfails ((Window.usable_iff _).mp husable)]
    rfl

end Sys2Proof.Machine
end

section
/-! SUPPORT. Cycles and frames that are not taken: a held bus carries no cycle (R126, R127), and under the reset input no frame
is received (R105). -/

namespace Sys2Proof.Machine

variable {s : State}

/-! ## A held bus (R126, R127) -/

theorem State.apertureRead_held (c : Cycle) (h : s.busHeld = true) : s.apertureRead c = s :=
  if_pos h

theorem State.apertureWrite_held (c : Cycle) (data : BitVec 32) (h : s.busHeld = true) : s.apertureWrite c data = s :=
  if_pos h

theorem State.wrongWidth_held (access : WrongWidth) (h : s.busHeld = true) : s.wrongWidth access = s :=
  if_pos h

theorem State.dataRead_held (h : s.busHeld = true) : s.dataRead = s :=
  if_pos h

/-- No cycle of the local bus is taken while the bus is held (log 8): a memory cycle, an INDEX cycle, a DATA cycle of the wrong
width, a DATA read, and every DATA write, whatever its effect. -/
theorem exec_of_busHeld {c : Instr} (hc : isBusCycle c = true) (h : s.busHeld = true) : exec c s = .next s := by
  cases c with
  | apertureRead cycle => exact congrArg Host.Outcome.next (State.apertureRead_held cycle h)
  | apertureWrite cycle data => exact congrArg Host.Outcome.next (State.apertureWrite_held cycle data h)
  | indexWrite cycle => exact congrArg Host.Outcome.next (State.indexCycle_held cycle h)
  | dataWrongWidth access => exact congrArg Host.Outcome.next (State.wrongWidth_held access h)
  | dataRead => exact congrArg Host.Outcome.next (State.dataRead_held h)
  | registerWrite | windowFieldWrite | interruptFlagClear | interruptEnableWrite | join | stop | softReset | sweep | sync
  | popRecord | invalidateLine | enableWindow | disableWindow | clearCounters | clearOverflow | unknownCommand =>
    exact congrArg Host.Outcome.next (State.dataWrite_held _ h)
  | resetInput | resetDeassertion | readResumesFreeEntry | writeResumesQueueSpace | orderedReadDispatch | welcome | lineData
  | wordData | writeAck | syncAck | notice | tick | restart | corruptFrame | frameWhileDown | transmissionEnd
  | responseTimerExpiry | writeTimerExpiry | syncTimerExpiry | joinTimerExpiry | quietTimerExpiry | sweepStep =>
    cases hc

/-! ## The reset input (R105) -/

theorem State.receive_of_reset (f : InFrame) (hr : s.pins.resetAsserted = true) : s.receive f = s :=
  if_pos hr

theorem State.receiveBytes_of_reset (bytes : List Byte) (hr : s.pins.resetAsserted = true) : s.receiveBytes bytes = s :=
  if_pos hr

/-- Settles O3: a pending access and the reset input each hold the bus, and the reset input stops the receiver. -/
theorem noCycleIsTakenOnAHeldBusAndNoFrameUnderReset : Obligations.NoCycleIsTakenOnAHeldBusAndNoFrameUnderReset := by
  intro s
  refine ⟨fun c hc hheld => exec_of_busHeld hc ?_, fun hr => ⟨fun f => ?_, fun bytes => ?_⟩⟩
  · rcases hheld with hpending | hreset
    · simp [State.busHeld, hpending]
    · simp [State.busHeld, hreset]
  · rw [exec_arrivalOf, State.receive_of_reset f hr]
  · have hbytes := State.receiveBytes_of_reset bytes hr
    exact ⟨congrArg Host.Outcome.next hbytes, congrArg Host.Outcome.next hbytes⟩

end Sys2Proof.Machine
end

section
/-! SUPPORT. A read presented in the aperture: dispatched, or waiting for the write queue to empty (R132, R153), and the word
read that finds no FREE entry (R136). -/

namespace Sys2Proof.Machine

variable {s : State}

/-- A read cycle that passes the checks starts the read of the access its window's match fills (R132). -/
theorem exec_apertureRead_of_passes {c : Cycle} {offset : Offset} {size : Size} {i : Fin 8} (hcan : s.CanCycle)
    (hc : presented c = ⟨offset, some size⟩) (h : s.Passes offset size false i) :
    exec (.apertureRead c) s = .next (s.startRead (s.accessOf offset size .read i .entryDone)).transmit := by
  refine congrArg Host.Outcome.next ?_
  rw [State.apertureRead, State.busHeld_of_canCycle hcan, State.checkAccess_of_passes hc h]
  rfl

/-- An ORDERED read waits while the queue holds an entry (R132, R153). -/
theorem State.startRead_ordered {a : Access} (hordered : a.attrs.ordered = true) (hqueue : s.wq.entries ≠ []) :
    s.startRead a = s.setAccess { a with wait := .queueEmpty } := by
  simp [State.startRead, hordered, hqueue]

/-- Any other read, or an ORDERED one that finds the queue empty, is dispatched (R132). -/
theorem State.startRead_dispatches {a : Access} (h : a.attrs.ordered = true → s.wq.entries = []) :
    s.startRead a = s.dispatchRead true a := by
  refine if_neg fun hwaits => ?_
  obtain ⟨hordered, hnonempty⟩ := (Bool.and_eq_true _ _).mp hwaits
  simp [h hordered] at hnonempty

/-- Without CACHEABLE a read waits on a free entry, when none is FREE (R136). -/
theorem State.dispatchRead_wordWaits {a : Access} (counted : Bool) (hcache : a.attrs.cacheable = false)
    (hfull : s.freeEntry = none) : s.dispatchRead counted a = s.setAccess { a with wait := .freeEntry } := by
  rw [State.dispatchRead, hcache, if_neg Bool.false_ne_true, State.readWord, hfull]

/-- An access put into the pending-access record offers no frame (R102, R126). -/
theorem State.transmit_setAccess (a : Access) (law : s.TransmitterLaw) : (s.setAccess a).transmit = s.setAccess a :=
  State.transmit_of_same law rfl rfl rfl rfl

/-- Settles O57: an ORDERED read waits before its dispatch; a word read takes the lowest FREE entry, or waits on one. -/
theorem wordReadsAndOrderedWaits : Obligations.WordReadsAndOrderedWaits := by
  rintro c offset size i a s hcan law hc hpasses rfl
  rw [exec_apertureRead_of_passes hcan hc hpasses]
  refine ⟨fun hordered hqueue => ?_, fun hcache hempty => ?_⟩
  · rw [State.startRead_ordered hordered hqueue, State.transmit_setAccess _ law]
    rfl
  · rw [State.startRead_dispatches hempty]
    refine ⟨fun tag hlowest => ?_, fun hfull => ?_⟩
    · rw [State.dispatchRead_word true hcache (State.freeEntry_of_lowest hlowest)]
    · rw [State.dispatchRead_wordWaits true hcache (State.freeEntry_none hfull), State.transmit_setAccess _ law]
      rfl

end Sys2Proof.Machine
end

section
/-! SUPPORT. A cycle refused at its presentation: the offset and size that the byte enables name (R127), and for each check that
fails the record it leaves (R128 to R130). -/

namespace Sys2Proof.Machine

variable {s : State}

/-! ## The run that the enables name (R127, log 13) -/

/-- The enables alone fix the size and how far the offset lies above the cycle's address. -/
theorem presented_eq (c : Cycle) :
    presented c = ⟨c.address + (presented ⟨0#26, c.enables⟩).offset, (presented ⟨0#26, c.enables⟩).size⟩ := by
  unfold presented
  dsimp only
  split <;> simp

theorem presented_offset_sub_address (c : Cycle) :
    (presented c).offset - c.address = (presented ⟨0#26, c.enables⟩).offset := by
  rw [presented_eq, BitVec.add_comm, BitVec.add_sub_cancel]

/-- A cycle has a size exactly when its enables are one run of that many lanes from its offset up. -/
theorem presented_size_iff (c : Cycle) (size : Size) :
    (presented c).size = some size ↔
      c.enables.toNat = (2 ^ sizeBytes size - 1) * 2 ^ ((presented c).offset - c.address).toNat := by
  have hrun : ∀ enables : BitVec 4, (presented ⟨0#26, enables⟩).size = some size ↔
      enables.toNat = (2 ^ sizeBytes size - 1) * 2 ^ (presented ⟨0#26, enables⟩).offset.toNat := by
    cases size <;> decide
  rw [presented_offset_sub_address, presented_eq]
  exact hrun c.enables

theorem presented_offset_of_noLane {c : Cycle} (h : c.enables = 0#4) : (presented c).offset = c.address := by
  simp [presented, h]

/-- The offset is that of the lowest enabled byte. -/
theorem presented_offset_of_lowestLane {c : Cycle} {k : Nat} (hk : c.enables.getLsbD k = true)
    (hlowest : ∀ j : Nat, j < k → c.enables.getLsbD j = false) :
    (presented c).offset = c.address + BitVec.ofNat 26 k := by
  have hlane : ∀ (enables : BitVec 4) (k : Fin 4), enables.getLsbD k = true →
      (∀ j : Nat, j < k → enables.getLsbD j = false) → (presented ⟨0#26, enables⟩).offset = BitVec.ofNat 26 k := by
    decide
  rw [presented_eq]
  exact congrArg (c.address + ·) (hlane c.enables ⟨k, BitVec.lt_of_getLsbD hk⟩ hk hlowest)

/-! ## The all-ones value (R127, R131) -/

/-- A refused read without a size carries FFH in every enabled lane and 00H in the others (log 13). -/
theorem getLsbD_onesOfLanes (enables : BitVec 4) {k : Nat} (hk : k < 32) :
    (onesOfLanes enables).getLsbD k = enables.getLsbD (k / 8) := by
  have hbit : ∀ (enables : BitVec 4) (k : Fin 32), (onesOfLanes enables).getLsbD k = enables.getLsbD (k / 8) := by
    decide
  exact hbit enables ⟨k, hk⟩

theorem onesOfCycle_of_size {c : Cycle} {size : Size} (h : (presented c).size = some size) :
    onesOfCycle c = onesOf size := by
  rw [onesOfCycle, h]

theorem onesOfCycle_of_noSize {c : Cycle} (h : (presented c).size = none) : onesOfCycle c = onesOfLanes c.enables := by
  rw [onesOfCycle, h]

/-! ## The first check that fails (R127 to R130) -/

theorem State.checkAccess_noSize {c : Cycle} (direction : Direction) (h : (presented c).size = none) :
    s.checkAccess c direction = .error (.misaligned (presented c).offset) := by
  simp only [State.checkAccess, h]

theorem State.checkAccess_unaligned {c : Cycle} {size : Size} (direction : Direction) (hsize : (presented c).size = some size)
    (h : (presented c).offset.toNat % sizeBytes size ≠ 0) :
    s.checkAccess c direction = .error (.misaligned (presented c).offset) := by
  simp [State.checkAccess, hsize, aligned, h]

theorem State.checkAccess_linkNotUp {c : Cycle} {size : Size} (direction : Direction) (hsize : (presented c).size = some size)
    (haligned : (presented c).offset.toNat % sizeBytes size = 0) (h : s.link.state ≠ .up) :
    s.checkAccess c direction = .error (.linkNotUp (presented c).offset) := by
  cases hstate : s.link.state with
  | up => exact absurd hstate h
  | down | joining | failed => simp [State.checkAccess, hsize, aligned, haligned, hstate]

theorem State.checkAccess_unmapped {c : Cycle} {size : Size} (direction : Direction) (hsize : (presented c).size = some size)
    (haligned : (presented c).offset.toNat % sizeBytes size = 0) (hup : s.link.state = .up)
    (h : s.matchWindow (presented c).offset = none) :
    s.checkAccess c direction = .error (.unmapped (presented c).offset) := by
  simp [State.checkAccess, hsize, aligned, haligned, hup, h]

theorem State.checkAccess_readOnly {c : Cycle} {size : Size} {i : Fin 8} {direction : Direction}
    (hdirection : (direction != .read) = true) (hsize : (presented c).size = some size)
    (h : s.Passes (presented c).offset size false i) (hreadOnly : (s.windows[i]).attrs.readOnly = true) :
    s.checkAccess c direction =
      .error (.readOnlyWrite i (presented c).offset ((s.windows[i]).translate (presented c).offset)) := by
  simp only [State.checkAccess, hsize, aligned, h.aligned, beq_self_eq_true, if_true, h.up, State.matchWindow_of_passes h,
    hdirection, hreadOnly, Bool.and_self]

/-- The checks refuse a cycle that is turned away, with the body of the first that fails (R127). -/
theorem State.checkAccess_of_turnsAway {c : Cycle} {direction : Direction} {body : RecordBody}
    (h : s.TurnsAway c (direction != .read) body) : s.checkAccess c direction = .error body := by
  obtain ⟨hnone, rfl⟩ | ⟨size, hsize, ⟨hunaligned, rfl⟩ | ⟨haligned, hdown, rfl⟩ | ⟨haligned, hup, hunmapped, rfl⟩ |
    ⟨hwrite, i, hpasses, hreadOnly, rfl⟩⟩ := h
  · exact State.checkAccess_noSize direction hnone
  · exact State.checkAccess_unaligned direction hsize hunaligned
  · exact State.checkAccess_linkNotUp direction hsize haligned hdown
  · exact State.checkAccess_unmapped direction hsize haligned hup (State.matchWindow_none hunmapped)
  · exact State.checkAccess_readOnly hwrite hsize hpasses hreadOnly

/-! ## The cycle's end (R131) -/

theorem exec_apertureRead_refused {c : Cycle} {body : RecordBody} (hcan : s.CanCycle) (h : s.TurnsAway c false body) :
    exec (.apertureRead c) s =
      .next (State.handRecord ⟨body, 1#8⟩ { s with bus := s.bus.afterRead (onesOfCycle c) s.bus.berrEn }) := by
  refine congrArg Host.Outcome.next ?_
  rw [State.apertureRead, State.busHeld_of_canCycle hcan, State.checkAccess_of_turnsAway h]
  rfl

theorem writeDirection_isWrite (c : Cycle) (data : BitVec 32) : (writeDirection c data != .read) = true := by
  unfold writeDirection
  split <;> rfl

theorem exec_apertureWrite_refused {c : Cycle} {body : RecordBody} (data : BitVec 32) (hcan : s.CanCycle)
    (h : s.TurnsAway c true body) :
    exec (.apertureWrite c data) s =
      .next (State.handRecord ⟨body, 1#8⟩ { s with bus := s.bus.afterWrite s.bus.berrEn }) := by
  refine congrArg Host.Outcome.next ?_
  rw [State.apertureWrite, State.busHeld_of_canCycle hcan,
    State.checkAccess_of_turnsAway (by rwa [writeDirection_isWrite])]
  rfl

/-- Settles O54: the first check that fails gives the record, and the enables give the offset, the size and the read's value. -/
theorem refusedCyclesEndAtPresentation : Obligations.RefusedCyclesEndAtPresentation := by
  refine ⟨fun c data body s hcan => ⟨fun h => ⟨onesOfCycle c, exec_apertureRead_refused hcan h, fun size hsize => ?_,
    fun hnone k hk => ?_⟩, exec_apertureWrite_refused data hcan⟩,
    fun c => ⟨presented_size_iff c, presented_offset_of_noLane, fun k => presented_offset_of_lowestLane⟩⟩
  · rw [onesOfCycle_of_size hsize, onesOf_eq]
  · rw [onesOfCycle_of_noSize hnone, getLsbD_onesOfLanes c.enables hk]

end Sys2Proof.Machine
end

section
/-! SUPPORT. The barrier: what a SYNC command makes of the write queue and of the sync unit (R146, R54), and what a SYNC_ACK
makes of a barrier that is SENT (R149). -/

namespace Sys2Proof.Machine

variable {s : State}

/-! ## The mark and the through-sequence (R54, R146) -/

theorem markYoungest_concat (y : WriteEntry) : ∀ rest : List WriteEntry,
    markYoungest (rest ++ [y]) = (rest.map fun e => { e with mark := false }) ++ [{ y with closed := true, mark := true }]
  | [] => rfl
  | [_] => rfl
  | _ :: f :: rest => congrArg (List.cons _) (markYoungest_concat y (f :: rest))

theorem acceptedSync_empty {q : WriteQueue} (u : SyncUnit) (h : q.entries = []) :
    acceptedSync q u =
      { state := .pending, mark := .none, through := q.lastAssigned, issue := 0#2, retries := 0#3, timer := .stopped } := by
  simp only [acceptedSync, h, List.getLast?_nil]

/-- That the through-sequence is absent is the model's choice (log 24). -/
theorem acceptedSync_queued {q : WriteQueue} {rest : List WriteEntry} {y : WriteEntry} (u : SyncUnit)
    (h : q.entries = rest ++ [y]) (hy : y.state = .queued) :
    acceptedSync q u =
      { state := .pending, mark := .waiting, through := none, issue := 0#2, retries := 0#3, timer := .stopped } := by
  simp only [acceptedSync, h, List.getLast?_concat, hy]

theorem acceptedSync_sent {q : WriteQueue} {rest : List WriteEntry} {y : WriteEntry} {seq : Seq} {replay : Bool}
    (u : SyncUnit) (h : q.entries = rest ++ [y]) (hy : y.state = .sent seq replay) :
    acceptedSync q u =
      { state := .pending, mark := .sent, through := some seq, issue := 0#2, retries := 0#3, timer := .stopped } := by
  simp only [acceptedSync, h, List.getLast?_concat, hy]

theorem State.acceptBarrier_empty (h : s.wq.entries = []) :
    s.acceptBarrier = { s with sync := acceptedSync s.wq s.sync } := by
  have hwq : { s.wq with entries := markYoungest s.wq.entries } = s.wq := by
    rw [h, markYoungest, ← h]
  rw [State.acceptBarrier, hwq]

theorem State.acceptBarrier_concat {rest : List WriteEntry} {y : WriteEntry} (h : s.wq.entries = rest ++ [y]) :
    s.acceptBarrier =
      { s with
        wq := { s.wq with entries :=
          (rest.map fun e => { e with mark := false }) ++ [{ y with closed := true, mark := true }] }
        sync := acceptedSync s.wq s.sync } := by
  rw [State.acceptBarrier, h, markYoungest_concat]

/-! ## SYNC (R146) -/

theorem State.syncCommand_of_not_up (h : s.link.state ≠ .up) : s.syncCommand = s.setStatus .wrongState := by
  unfold State.syncCommand
  cases hstate : s.link.state with
  | up => exact absurd hstate h
  | down | joining | failed => rfl

theorem State.syncCommand_underWay (hup : s.link.state = .up) (h : s.sync.state = .pending ∨ s.sync.state = .sent) :
    s.syncCommand = s.setStatus .busy := by
  rcases h with h | h <;> simp only [State.syncCommand, hup, h]

theorem State.syncCommand_accepts (hup : s.link.state = .up) (hpending : s.sync.state ≠ .pending)
    (hsent : s.sync.state ≠ .sent) : s.syncCommand = s.acceptBarrier.transmit.setStatus .done := by
  simp only [State.syncCommand, hup]
  cases hstate : s.sync.state with
  | pending => exact absurd hstate hpending
  | sent => exact absurd hstate hsent
  | idle | done | failed => rfl

/-- The command's DATA write around its effect (R168). -/
theorem exec_sync_refused {status : CommandStatus} (hcan : s.CanCycle) (h : s.syncCommand = s.setStatus status) :
    exec .sync s = .next { s with cmd := { s.cmd with status := status }, bus := s.bus.afterDataWrite } := by
  refine congrArg Host.Outcome.next ?_
  rw [State.dataWrite_eq_of_bus _ hcan (by rw [h, State.setStatus_bus]), h]
  rfl

/-- An accepted barrier is offered to the transmitter at the same event (R147, log 19). -/
theorem exec_sync_accepts (hcan : s.CanCycle) (hup : s.link.state = .up) (hpending : s.sync.state ≠ .pending)
    (hsent : s.sync.state ≠ .sent) :
    exec .sync s =
      .next { s.acceptBarrier.transmit with cmd := { s.cmd with status := .done }, bus := s.bus.afterDataWrite } := by
  have heffect := State.syncCommand_accepts hup hpending hsent
  refine congrArg Host.Outcome.next ?_
  rw [State.dataWrite_eq_of_bus _ hcan (by simp [heffect]), heffect, State.setStatus, State.transmit_cmd,
    State.acceptBarrier_cmd]

/-- Settles O30: the link and the sync state decide between the refusals and the acceptance, and the queue's youngest entry
between the marks. -/
theorem syncCommandOutcomes : Obligations.SyncCommandOutcomes := by
  intro s hcan
  refine ⟨fun hdown => exec_sync_refused hcan (State.syncCommand_of_not_up hdown),
    fun hup hstate => exec_sync_refused hcan (State.syncCommand_underWay hup hstate), fun hup hpending hsent => ?_⟩
  rw [exec_sync_accepts hcan hup hpending hsent]
  refine ⟨fun hempty => ?_, fun rest y hyoungest hy => ?_, fun rest y q r hyoungest hy => ?_⟩
  · rw [State.acceptBarrier_empty hempty, acceptedSync_empty _ hempty]
  · rw [State.acceptBarrier_concat hyoungest, acceptedSync_queued _ hyoungest hy]
  · rw [State.acceptBarrier_concat hyoungest, acceptedSync_sent _ hyoungest hy]

/-! ## SYNC_ACK (R149) -/

theorem exec_syncAck_up (issue : Issue) (hr : s.pins.resetAsserted = false) (hu : s.link.state = .up) :
    exec (.syncAck issue) s = .next (s.restartQuiet.takeSyncAck issue) :=
  congrArg Host.Outcome.next (State.receive_up (.syncAck issue) hr hu)

theorem State.takeSyncAck_match {issue : Issue} (h : s.sync.state = .sent ∧ s.sync.issue = issue) :
    s.takeSyncAck issue = { s with sync := { s.sync with state := .done, timer := .stopped } }.setSyncFlag :=
  if_pos h

theorem State.takeSyncAck_stale {issue : Issue} (h : ¬ (s.sync.state = .sent ∧ s.sync.issue = issue)) :
    s.takeSyncAck issue = s.bump .staleFrames :=
  if_neg h

/-- Settles O45: the restart of the quiet timer leaves the sync unit, so the match is decided by the state before the frame. -/
theorem syncAckCompletesTheBarrier : Obligations.SyncAckCompletesTheBarrier := by
  intro issue s hr hu
  rw [exec_syncAck_up issue hr hu]
  refine ⟨fun hsent hissue => ?_, fun hstale => ?_⟩
  · rw [State.takeSyncAck_match (s := s.restartQuiet) ⟨hsent, hissue⟩]
    rfl
  · rw [State.takeSyncAck_stale (s := s.restartQuiet) hstale]
    rfl

end Sys2Proof.Machine
end

section
/-! SUPPORT. The record queue: what the queue makes of a record that is handed to it (R157), what POP_RECORD makes of the queue
(R159), and that every operation of the bridge keeps the queue's law (R155). -/

namespace Sys2Proof.Machine

variable {s : State}

/-! ## Counts that stop at 255 (R157) -/

theorem addCount_eq (a b : BitVec 8) : addCount a b = BitVec.ofNat 8 (min 255 (a.toNat + b.toNat)) := by
  unfold addCount
  split
  · rename_i hsum
    rw [Nat.min_eq_right hsum, BitVec.ofNat_add, BitVec.ofNat_toNat, BitVec.ofNat_toNat, BitVec.setWidth_eq,
      BitVec.setWidth_eq]
  · rename_i hsum
    rw [Nat.min_eq_left (by omega)]

theorem overflowUp_eq (c : BitVec 8) : overflowUp c = BitVec.ofNat 8 (min 255 (c.toNat + 1)) := by
  unfold overflowUp
  split
  · rename_i hfull
    rw [hfull]
    rfl
  · rename_i hfull
    have hroom : c.toNat + 1 ≤ 255 := by bv_omega
    rw [Nat.min_eq_right hroom]
    exact (ofNat_toNat_succ c).symm

/-- A merged count is not 0, for it is at least the count that was there (R155, R157). -/
theorem addCount_ne_zero {a : BitVec 8} (b : BitVec 8) (ha : a ≠ 0#8) : addCount a b ≠ 0#8 := by
  unfold addCount
  split
  · rename_i hsum
    bv_omega
  · decide

/-! ## The record that an arriving one merges into (R157) -/

theorem RecordBody.mergesWith_iff (a b : RecordBody) :
    a.mergesWith b = true ↔ a.kind = b.kind ∧ a.window? = b.window? ∧ a.remote? = b.remote? := by
  simp only [RecordBody.mergesWith, Bool.and_eq_true, beq_iff_eq, and_assoc]

theorem RecordQueue.mergeTarget_eq_some {q : RecordQueue} {r y : ErrorRecord} :
    q.mergeTarget r = some y ↔ q.list.getLast? = some y ∧ y.body.mergesWith r.body = true := by
  unfold RecordQueue.mergeTarget
  cases q.list.getLast? with
  | none => simp
  | some z =>
    simp only [Option.ite_none_right_eq_some, Option.some.injEq]
    exact ⟨fun ⟨hmerges, hz⟩ => ⟨hz, hz ▸ hmerges⟩, fun ⟨hz, hmerges⟩ => ⟨hz ▸ hmerges, hz⟩⟩

theorem RecordQueue.mergeTarget_eq_none {q : RecordQueue} {r : ErrorRecord} :
    q.mergeTarget r = none ↔ ∀ y, q.list.getLast? = some y → ¬ y.body.mergesWith r.body = true := by
  simp only [Option.eq_none_iff_forall_ne_some, ne_eq, RecordQueue.mergeTarget_eq_some, not_and]

/-! ## A record handed to the queue (R157) -/

theorem State.handRecord_merges {r y : ErrorRecord} (h : s.records.mergeTarget r = some y) :
    s.handRecord r =
      { s with records := { s.records with
          list := s.records.list.dropLast ++ [{ y with count := addCount y.count r.count }] } }.setRecordFlag := by
  simp only [State.handRecord, h]

theorem State.handRecord_appends {r : ErrorRecord} (h : s.records.mergeTarget r = none)
    (hspace : s.records.list.length < 8) :
    s.handRecord r = { s with records := { s.records with list := s.records.list ++ [r] } }.setRecordFlag := by
  simp only [State.handRecord, h, if_pos hspace]

theorem State.handRecord_drops {r : ErrorRecord} (h : s.records.mergeTarget r = none)
    (hfull : ¬ s.records.list.length < 8) :
    s.handRecord r = { s with records := { s.records with overflow := overflowUp s.records.overflow } } := by
  simp only [State.handRecord, h, if_neg hfull]

/-- Settles O35: the merge test against the youngest record, then the space left, decide between the three ends. -/
theorem recordIsMergedAppendedOrDropped : Obligations.RecordIsMergedAppendedOrDropped := by
  intro r s
  refine ⟨fun rest y hlist hkind hwindow hremote => ?_, fun hdiffers => ?_⟩
  · have htarget : s.records.mergeTarget r = some y :=
      RecordQueue.mergeTarget_eq_some.mpr
        ⟨by rw [hlist, List.getLast?_concat], (RecordBody.mergesWith_iff ..).mpr ⟨hkind, hwindow, hremote⟩⟩
    rw [State.handRecord_merges htarget, addCount_eq, hlist, List.dropLast_concat]
    rfl
  · have htarget : s.records.mergeTarget r = none :=
      RecordQueue.mergeTarget_eq_none.mpr fun y hy hmerges => hdiffers y hy ((RecordBody.mergesWith_iff ..).mp hmerges)
    refine ⟨fun hspace => State.handRecord_appends htarget hspace, fun hfull => ?_⟩
    rw [State.handRecord_drops htarget (Nat.not_lt.mpr hfull), overflowUp_eq]

/-! ## POP_RECORD (R159) -/

theorem State.popCommand_nil (h : s.records.list = []) : s.popCommand = s.setStatus .empty := by
  simp only [State.popCommand, h]

theorem State.popCommand_cons {r : ErrorRecord} {rest : List ErrorRecord} (h : s.records.list = r :: rest) :
    s.popCommand = { s with records := { s.records with list := rest } }.setStatus .done := by
  simp only [State.popCommand, h]

/-- A DATA write around an effect that is known and stays off the bus interface (R168). -/
theorem State.dataWrite_of_effect {effect : State → State} {t : State} (hcan : s.CanCycle) (heffect : effect s = t)
    (hbus : t.bus = s.bus) : s.dataWrite effect = { t with bus := s.bus.afterDataWrite } := by
  rw [State.dataWrite_eq_of_bus effect hcan (by rw [heffect, hbus]), heffect]

/-- Settles O31: the queue's head, or its absence, decides the status; the cycle's end is that of every DATA write. -/
theorem popRecordRemovesTheHead : Obligations.PopRecordRemovesTheHead := by
  intro s hcan
  exact ⟨fun hempty => congrArg Host.Outcome.next (State.dataWrite_of_effect hcan (State.popCommand_nil hempty) rfl),
    fun r rest hhead => congrArg Host.Outcome.next (State.dataWrite_of_effect hcan (State.popCommand_cons hhead) rfl)⟩

/-! ## What keeps the law (R155) -/

namespace State.RecordLaw

/-- The law speaks of the record queue alone. -/
theorem of_records {t : State} (h : s.RecordLaw) (hrecords : t.records = s.records) : t.RecordLaw := by
  rw [State.RecordLaw, hrecords]
  exact h

theorem of_empty (h : s.records.list = []) : s.RecordLaw := by
  simp [State.RecordLaw, h]

/-- A handed record of a count that is not 0 keeps the law: merged, appended while there is space, or dropped. -/
theorem handRecord (h : s.RecordLaw) {r : ErrorRecord} (hr : r.count ≠ 0#8) : (s.handRecord r).RecordLaw := by
  obtain ⟨hlength, hcounts⟩ := h
  cases htarget : s.records.mergeTarget r with
  | some y =>
    have hlast := (RecordQueue.mergeTarget_eq_some.mp htarget).1
    have hsplit : s.records.list.dropLast ++ [y] = s.records.list := List.dropLast_append_getLast? y hlast
    rw [← hsplit] at hlength hcounts
    rw [State.handRecord_merges htarget]
    refine ⟨by simpa using hlength, fun x hx => ?_⟩
    rcases List.mem_append.mp hx with hx | hx
    · exact hcounts x (List.mem_append_left _ hx)
    · rw [List.mem_singleton.mp hx]
      exact addCount_ne_zero r.count (hcounts y (by simp))
  | none =>
    by_cases hspace : s.records.list.length < 8
    · rw [State.handRecord_appends htarget hspace]
      refine ⟨by simpa using hspace, fun x hx => ?_⟩
      rcases List.mem_append.mp hx with hx | hx
      · exact hcounts x hx
      · rwa [List.mem_singleton.mp hx]
    · rw [State.handRecord_drops htarget hspace]
      exact ⟨hlength, hcounts⟩

/-- A record of one event, as every record but that of a refusal total is (R156). -/
theorem handOne (h : s.RecordLaw) (body : RecordBody) : (s.handRecord ⟨body, 1#8⟩).RecordLaw :=
  h.handRecord (r := ⟨body, 1#8⟩) (show 1#8 ≠ 0#8 by decide)

theorem popCommand (h : s.RecordLaw) : s.popCommand.RecordLaw := by
  cases hlist : s.records.list with
  | nil =>
    rw [State.popCommand_nil hlist]
    exact h
  | cons r rest =>
    obtain ⟨hlength, hcounts⟩ := h
    rw [hlist] at hlength hcounts
    rw [State.popCommand_cons hlist]
    exact ⟨Nat.le_of_succ_le hlength, fun x hx => hcounts x (List.mem_cons_of_mem r hx)⟩

/-! ## Operations that several commands share -/

theorem transmit (h : s.RecordLaw) : s.transmit.RecordLaw :=
  h.of_records (State.transmit_records s)

theorem resumeFreeEntry (h : s.RecordLaw) : s.resumeFreeEntry.RecordLaw :=
  h.of_records (State.resumeFreeEntry_records s)

theorem resumeQueueSpace (h : s.RecordLaw) : s.resumeQueueSpace.RecordLaw :=
  h.of_records (State.resumeQueueSpace_records s)

theorem resumeQueueEmpty (h : s.RecordLaw) : s.resumeQueueEmpty.RecordLaw :=
  h.of_records (State.resumeQueueEmpty_records s)

theorem startSweep (h : s.RecordLaw) : s.startSweep.RecordLaw :=
  h.of_records (State.startSweep_records s)

theorem reportFailure (h : s.RecordLaw) (cause : Cause) (discarded : Nat) : (s.reportFailure cause discarded).RecordLaw :=
  h.handOne _

/-- The failure's record is handed to the queue that the teardown has left as it was (R98, R99). -/
theorem fail (h : s.RecordLaw) (cause : Cause) : (s.fail cause).RecordLaw := by
  have hreported : (s.afterFailure cause).RecordLaw :=
    RecordLaw.reportFailure (h.of_records (by simp)) cause s.wq.entries.length
  rw [State.fail_eq]
  split
  · exact RecordLaw.transmit hreported
  · exact hreported.transmit

/-! ## Arriving frames -/

theorem refuseRead (h : s.RecordLaw) (tag : Fin 4) (w : ReadWork) : (s.refuseRead tag w).RecordLaw := by
  have hfailed : (s.failFill w.target?).RecordLaw := h.of_records (State.failFill_records ..)
  unfold State.refuseRead
  dsimp only
  split
  · split
    · rename_i a _
      have hended : ((s.failFill w.target?).endRead (onesOf a.size) (s.failFill w.target?).bus.berrEn).RecordLaw := hfailed
      exact resumeFreeEntry (hended.handOne _)
    · exact resumeFreeEntry (hfailed.handOne _)
  · exact resumeFreeEntry hfailed

theorem takeResponse (h : s.RecordLaw) (tag : Fin 4) (issue : Issue) (isLine : Bool) (status : Status)
    (returned : ReadWork → Line) : (s.takeResponse tag issue isLine status returned).RecordLaw := by
  unfold State.takeResponse
  split
  · exact h
  · split
    · exact transmit (h.of_records (State.completeRead_records ..))
    · exact (h.refuseRead tag _).transmit

theorem refuseWrite (h : s.RecordLaw) (e : WriteEntry) : (s.refuseWrite e).RecordLaw :=
  (h.handOne _).of_records (State.invalidateValid_records ..)

theorem retired (h : s.RecordLaw) (k : Nat) (status : Status) : (s.retired k status).RecordLaw := by
  have hremoved : (s.removeEntries k).RecordLaw := h.of_records (State.removeEntries_records ..)
  unfold State.retired
  extract_lets reported
  have hreported : reported.RecordLaw := by
    unfold reported
    split
    · split
      · exact hremoved.refuseWrite _
      · exact hremoved
    · exact hremoved
  split
  · exact hreported.of_records (State.endWriter_records ..)
  · exact hreported

theorem ackEntries (h : s.RecordLaw) (k : Nat) (status : Status) : (s.ackEntries k status).RecordLaw :=
  (h.retired k status).resumeQueueSpace.resumeQueueEmpty

/-- The record of a total that is not the expected one carries their difference, which is not 0 (R60). -/
theorem checkTotal (h : s.RecordLaw) (status : Status) (total : BitVec 8) : (s.checkTotal status total).RecordLaw := by
  unfold State.checkTotal
  dsimp only
  split
  · exact h
  · rename_i hdiffers
    have hsettled : { s with wq := { s.wq with rt := total } }.RecordLaw := h
    exact hsettled.handRecord (sub_ne_zero.mpr hdiffers)

theorem takeWriteAck (h : s.RecordLaw) (seq : Seq) (status : Status) (total : BitVec 8) :
    (s.takeWriteAck seq status total).RecordLaw := by
  unfold State.takeWriteAck
  dsimp only
  split
  · exact ((h.ackEntries _ status).checkTotal status total).transmit
  · have hbumped : (s.bump .staleFrames).RecordLaw := h
    exact (hbumped.checkTotal status total).transmit

theorem takeNotice (h : s.RecordLaw) (seq : Seq) (line : LineAddr) : (s.takeNotice seq line).RecordLaw := by
  unfold State.takeNotice
  dsimp only
  split
  · split
    · exact h.of_records (by simp)
    · exact h
  · exact (h.handOne _).startSweep

theorem takeTick (h : s.RecordLaw) (next : Seq) : (s.takeTick next).RecordLaw := by
  unfold State.takeTick
  dsimp only
  split
  · exact h
  · exact (h.handOne _).startSweep

theorem takeFrame (h : s.RecordLaw) : ∀ f : InFrame, (s.takeFrame f).RecordLaw
  | .welcome _ => h
  | .lineData .. => h.takeResponse ..
  | .wordData .. => h.takeResponse ..
  | .writeAck seq status total => h.takeWriteAck seq status total
  | .syncAck _ => h.of_records (State.takeSyncAck_records ..)
  | .notice seq line => h.takeNotice seq line
  | .tick next => h.takeTick next
  | .restart => h.fail .storeRestart

theorem takeFrameJoining (h : s.RecordLaw) (f : InFrame) : (s.takeFrameJoining f).RecordLaw := by
  cases f <;> exact h

theorem receive (h : s.RecordLaw) (f : InFrame) : (s.receive f).RecordLaw := by
  unfold State.receive
  split
  · exact h
  · split
    · exact h
    · exact h
    · exact h.takeFrameJoining f
    · have hquiet : s.restartQuiet.RecordLaw := h
      exact hquiet.takeFrame f

theorem receiveBytes (h : s.RecordLaw) (bytes : List Byte) : (s.receiveBytes bytes).RecordLaw := by
  unfold State.receiveBytes
  split
  · exact h
  · split
    · exact h
    · exact h
    all_goals
      split
      · exact h
      · exact h.receive _

/-! ## Cycles on the local bus -/

/-- A refused cycle ends and hands its record (R131). -/
theorem apertureRead (h : s.RecordLaw) (c : Cycle) : (s.apertureRead c).RecordLaw := by
  unfold State.apertureRead
  split
  · exact h
  · split
    · have hended : (s.endRead (onesOfCycle c) s.bus.berrEn).RecordLaw := h
      exact hended.handOne _
    · exact transmit (h.of_records (State.startRead_records ..))

theorem apertureWrite (h : s.RecordLaw) (c : Cycle) (data : BitVec 32) : (s.apertureWrite c data).RecordLaw := by
  unfold State.apertureWrite
  split
  · exact h
  · split
    · have hended : (s.endWrite s.bus.berrEn).RecordLaw := h
      exact hended.handOne _
    · exact transmit (h.of_records (State.presentWrite_records ..))

theorem indexCycle (h : s.RecordLaw) (c : IndexCycle) : (s.indexCycle c).RecordLaw := by
  unfold State.indexCycle
  split
  · exact h
  · cases c <;> exact h

theorem wrongWidth (h : s.RecordLaw) (access : WrongWidth) : (s.wrongWidth access).RecordLaw := by
  unfold State.wrongWidth
  split
  · exact h
  · cases access <;> exact h

theorem dataRead (h : s.RecordLaw) : s.dataRead.RecordLaw := by
  unfold State.dataRead State.advanceIndex
  split
  · exact h
  · split <;> exact h

/-- A DATA write keeps the law when its effect on the register does. -/
theorem dataWrite (h : s.RecordLaw) {effect : State → State} (heffect : (effect s).RecordLaw) :
    (s.dataWrite effect).RecordLaw := by
  cases hheld : s.busHeld with
  | true => rwa [State.dataWrite_held effect hheld]
  | false =>
    rw [State.dataWrite_eq effect (State.busHeld_iff.mp hheld)]
    exact heffect

/-! ## The registers (R172, R178) -/

theorem joinCommand (h : s.RecordLaw) : s.joinCommand.RecordLaw := by
  unfold State.joinCommand
  split
  · exact h
  · exact h
  all_goals
    split
    · exact h
    · exact h.of_records (by simp)

theorem stopCommand (h : s.RecordLaw) : s.stopCommand.RecordLaw := by
  unfold State.stopCommand
  split
  all_goals exact h.of_records (by simp)

/-- SOFT_RESET leaves no record (R175). -/
theorem softResetCommand (s : State) : s.softResetCommand.RecordLaw :=
  of_empty rfl

theorem syncCommand (h : s.RecordLaw) : s.syncCommand.RecordLaw := by
  unfold State.syncCommand
  split
  · split
    · exact h
    · exact h
    all_goals exact h.of_records (by simp)
  all_goals exact h

theorem enableCommand (h : s.RecordLaw) : s.enableCommand.RecordLaw := by
  simp only [State.enableCommand]
  split <;> exact h

theorem invalidateCommand (h : s.RecordLaw) : s.invalidateCommand.RecordLaw :=
  h.of_records (State.dropLine_records ..)

theorem commandRegister (h : s.RecordLaw) (v : Half) : (s.commandRegister v).RecordLaw := by
  unfold State.commandRegister
  split
  · exact h.joinCommand
  · exact h.stopCommand
  · exact softResetCommand s
  · exact h.startSweep
  · exact h.syncCommand
  · exact h.popCommand
  · exact h.invalidateCommand
  · exact h.enableCommand
  all_goals exact h

theorem writeWindowField (h : s.RecordLaw) (field : WindowField) (v : Half) : (s.writeWindowField field v).RecordLaw := by
  simp only [State.writeWindowField]
  split <;> exact h

theorem writeRegister (h : s.RecordLaw) (i : BitVec 7) (v : Half) : (s.writeRegister i v).RecordLaw := by
  unfold State.writeRegister
  split
  case h_1 => exact h.commandRegister v
  case h_16 | h_17 | h_18 | h_19 | h_20 | h_21 => exact h.writeWindowField _ v
  all_goals exact h

/-! ## The events of the part itself -/

theorem endTransmission (h : s.RecordLaw) : s.endTransmission.RecordLaw := by
  unfold State.endTransmission
  split
  · exact h.of_records (State.transmit_records _)
  · exact h

theorem expireResponse (h : s.RecordLaw) (tag : Fin 4) : (s.expireResponse tag).RecordLaw := by
  unfold State.expireResponse
  split
  · split
    · split
      · exact h.of_records (State.transmit_records _)
      · exact h.fail _
    · exact h
  · exact h

theorem expireWrite (h : s.RecordLaw) : s.expireWrite.RecordLaw := by
  unfold State.expireWrite
  split
  · split
    · exact h.of_records (State.transmit_records _)
    · exact h.fail _
  · exact h

theorem expireSync (h : s.RecordLaw) : s.expireSync.RecordLaw := by
  unfold State.expireSync
  split
  · split
    · exact h.of_records (State.transmit_records _)
    · exact h.fail _
  · exact h

/-- A join that ends in failure hands its record too (R101). -/
theorem failJoin (h : s.RecordLaw) : s.failJoin.RecordLaw :=
  handOne (s := State.linkFailed .joinTimeout { s with link := { s.link with joinTimer := .stopped } }) h _

theorem expireJoin (h : s.RecordLaw) : s.expireJoin.RecordLaw := by
  unfold State.expireJoin
  split
  · split
    · exact h.of_records (State.transmit_records _)
    · exact h.failJoin
  · exact h

theorem expireQuiet (h : s.RecordLaw) : s.expireQuiet.RecordLaw := by
  unfold State.expireQuiet
  split
  · exact h.fail _
  · exact h

theorem stepSweep (h : s.RecordLaw) : s.stepSweep.RecordLaw := by
  unfold State.stepSweep
  split
  · dsimp only
    split <;> exact h
  · exact h

theorem deassertReset (h : s.RecordLaw) : s.deassertReset.RecordLaw := by
  unfold State.deassertReset
  split <;> exact h

/-! ## Every command (R155) -/

/-- Every command's next state keeps the law. -/
theorem exec (h : s.RecordLaw) : ∀ i : Instr, ∃ t, exec i s = .next t ∧ t.RecordLaw
  | .resetInput _ => ⟨_, rfl, of_empty rfl⟩
  | .resetDeassertion => ⟨_, rfl, h.deassertReset⟩
  | .apertureRead c => ⟨_, rfl, h.apertureRead c⟩
  | .apertureWrite c data => ⟨_, rfl, h.apertureWrite c data⟩
  | .readResumesFreeEntry => ⟨_, rfl, h.resumeFreeEntry.transmit⟩
  | .writeResumesQueueSpace => ⟨_, rfl, h.resumeQueueSpace.transmit⟩
  | .orderedReadDispatch => ⟨_, rfl, h.resumeQueueEmpty.transmit⟩
  | .indexWrite c => ⟨_, rfl, h.indexCycle c⟩
  | .dataWrongWidth access => ⟨_, rfl, h.wrongWidth access⟩
  | .registerWrite v => ⟨_, rfl, h.dataWrite (h.writeRegister s.bus.index v)⟩
  | .windowFieldWrite field v => ⟨_, rfl, h.dataWrite (h.writeWindowField field v)⟩
  | .interruptFlagClear v => ⟨_, rfl, h.dataWrite (effect := State.writeFlags v) h⟩
  | .interruptEnableWrite v => ⟨_, rfl, h.dataWrite (effect := State.writeEnables v) h⟩
  | .join => ⟨_, rfl, h.dataWrite h.joinCommand⟩
  | .stop => ⟨_, rfl, h.dataWrite h.stopCommand⟩
  | .softReset => ⟨_, rfl, h.dataWrite (softResetCommand s)⟩
  | .sweep => ⟨_, rfl, h.dataWrite (effect := State.sweepCommand) h.startSweep⟩
  | .sync => ⟨_, rfl, h.dataWrite h.syncCommand⟩
  | .popRecord => ⟨_, rfl, h.dataWrite h.popCommand⟩
  | .invalidateLine => ⟨_, rfl, h.dataWrite h.invalidateCommand⟩
  | .enableWindow => ⟨_, rfl, h.dataWrite h.enableCommand⟩
  | .disableWindow => ⟨_, rfl, h.dataWrite (effect := State.disableCommand) h⟩
  | .clearCounters => ⟨_, rfl, h.dataWrite (effect := State.clearCountersCommand) h⟩
  | .clearOverflow => ⟨_, rfl, h.dataWrite (effect := State.clearOverflowCommand) h⟩
  | .unknownCommand v => ⟨_, rfl, h.dataWrite (h.commandRegister v)⟩
  | .welcome first => ⟨_, rfl, h.receive (.welcome first)⟩
  | .lineData tag issue status data => ⟨_, rfl, h.receive (.lineData tag issue status data)⟩
  | .wordData tag issue status data => ⟨_, rfl, h.receive (.wordData tag issue status data)⟩
  | .writeAck seq status total => ⟨_, rfl, h.receive (.writeAck seq status total)⟩
  | .syncAck issue => ⟨_, rfl, h.receive (.syncAck issue)⟩
  | .notice seq line => ⟨_, rfl, h.receive (.notice seq line)⟩
  | .tick next => ⟨_, rfl, h.receive (.tick next)⟩
  | .restart => ⟨_, rfl, h.receive .restart⟩
  | .corruptFrame bytes => ⟨_, rfl, h.receiveBytes bytes⟩
  | .frameWhileDown bytes => ⟨_, rfl, h.receiveBytes bytes⟩
  | .transmissionEnd => ⟨_, rfl, h.endTransmission⟩
  | .responseTimerExpiry tag => ⟨_, rfl, h.expireResponse tag⟩
  | .writeTimerExpiry => ⟨_, rfl, h.expireWrite⟩
  | .syncTimerExpiry => ⟨_, rfl, h.expireSync⟩
  | .joinTimerExpiry => ⟨_, rfl, h.expireJoin⟩
  | .quietTimerExpiry => ⟨_, rfl, h.expireQuiet⟩
  | .sweepStep => ⟨_, rfl, h.stepSweep⟩
  | .dataRead => ⟨_, rfl, h.dataRead⟩

end State.RecordLaw

/-- Settles O8: an idle step changes nothing, and every command keeps the law. -/
theorem recordLawKept : Obligations.RecordLawKept := by
  intro s t law hstep
  unfold step at hstep
  split at hstep
  · cases hstep
    exact law
  · rename_i c rest _
    have hrest : { s with pending := rest }.RecordLaw := law
    obtain ⟨u, hu, hlaw⟩ := hrest.exec c
    cases hu.symm.trans hstep
    exact hlaw

end Sys2Proof.Machine
end

section
/-! SUPPORT. The interrupt registers and the interrupt output (R165, R166), and the command register's clears and its values that
are no command (R160, R163, R172). -/

namespace Sys2Proof.Machine

variable {s : State}

/-! ## The interrupt flags and enables (R165, R166) -/

theorem clearFlags_eq (f : FlagSet) (v : Half) :
    clearFlags f v =
      { record := if v.getLsbD 0 then false else f.record
        link := if v.getLsbD 1 then false else f.link
        sync := if v.getLsbD 2 then false else f.sync
        sweep := if v.getLsbD 3 then false else f.sweep } := by
  simp only [clearFlags, Bool.if_false_left, Bool.decide_eq_true, Bool.and_comm]

theorem exec_interruptFlagClear (v : Half) (hcan : s.CanCycle) :
    exec (.interruptFlagClear v) s = .next { s.writeFlags v with bus := s.bus.afterDataWrite } :=
  congrArg Host.Outcome.next (State.dataWrite_eq_of_bus (effect := State.writeFlags v) hcan rfl)

theorem exec_interruptEnableWrite (v : Half) (hcan : s.CanCycle) :
    exec (.interruptEnableWrite v) s = .next { s.writeEnables v with bus := s.bus.afterDataWrite } :=
  congrArg Host.Outcome.next (State.dataWrite_eq_of_bus (effect := State.writeEnables v) hcan rfl)

theorem State.interruptOutput_iff :
    s.interruptOutput = true ↔
      s.pins.resetAsserted = false ∧
        ((s.irq.flags.record = true ∧ s.irq.enables.record = true) ∨ (s.irq.flags.link = true ∧ s.irq.enables.link = true) ∨
          (s.irq.flags.sync = true ∧ s.irq.enables.sync = true) ∨
          (s.irq.flags.sweep = true ∧ s.irq.enables.sweep = true)) := by
  simp only [State.interruptOutput, Bool.and_eq_true, Bool.or_eq_true, Bool.not_eq_true', or_assoc]

/-- Settles O25: each register's write is the effect of a DATA write, and the output is the conjunction that R166 says. -/
theorem interruptRegistersAndOutput : Obligations.InterruptRegistersAndOutput := by
  refine ⟨fun v s hcan => ⟨?_, exec_interruptEnableWrite v hcan⟩, fun s => State.interruptOutput_iff⟩
  rw [exec_interruptFlagClear v hcan, State.writeFlags, clearFlags_eq]

/-! ## CLEAR_COUNTERS, CLEAR_OVERFLOW and what is no command (R163, R160, R172) -/

theorem exec_clearCounters (hcan : s.CanCycle) :
    exec .clearCounters s = .next { s.clearCountersCommand with bus := s.bus.afterDataWrite } :=
  congrArg Host.Outcome.next (State.dataWrite_eq_of_bus (effect := State.clearCountersCommand) hcan rfl)

theorem exec_clearOverflow (hcan : s.CanCycle) :
    exec .clearOverflow s = .next { s.clearOverflowCommand with bus := s.bus.afterDataWrite } :=
  congrArg Host.Outcome.next (State.dataWrite_eq_of_bus (effect := State.clearOverflowCommand) hcan rfl)

/-- The command codes are 1 to 0BH (R178). -/
theorem State.commandRegister_of_noCode {v : Half} (h : ¬ (1 ≤ v.toNat ∧ v.toNat ≤ 0x0B)) :
    s.commandRegister v = s.setStatus .badArgument := by
  unfold State.commandRegister
  split
  case h_12 => rfl
  all_goals omega

/-- Settles O34: the two clears are the effects of DATA writes, and a value outside the codes meets the register's last case. -/
theorem clearCommandsAndUnknownCodes : Obligations.ClearCommandsAndUnknownCodes := by
  intro s hcan
  exact ⟨exec_clearCounters hcan, exec_clearOverflow hcan, fun v hv =>
    congrArg Host.Outcome.next (State.dataWrite_of_effect hcan (State.commandRegister_of_noCode hv) rfl)⟩

end Sys2Proof.Machine
end

section
/-! SUPPORT. The register window's two ports: what a cycle on the INDEX port leaves (R167), and what a DATA cycle leaves that
reads a register or has a width that reaches none (R168). -/

namespace Sys2Proof.Machine

variable {s : State}

theorem State.not_busHeld (hcan : s.CanCycle) : ¬ s.busHeld = true :=
  Bool.eq_false_iff.mp (State.busHeld_of_canCycle hcan)

/-! ## The INDEX port (R167) -/

theorem exec_indexWrite_read {c : IndexCycle} (hcan : s.CanCycle) (hread : c = .read8 ∨ c = .read16 ∨ c = .read32) :
    exec (.indexWrite c) s = .next s.readIndex := by
  rcases hread with rfl | rfl | rfl <;> exact congrArg Host.Outcome.next (if_neg (State.not_busHeld hcan))

theorem exec_indexWrite_write8 (v : BitVec 8) (hcan : s.CanCycle) :
    exec (.indexWrite (.write8 v)) s = .next (s.writeIndex v) :=
  congrArg Host.Outcome.next (if_neg (State.not_busHeld hcan))

theorem exec_indexWrite_write16 (v : BitVec 16) (hcan : s.CanCycle) :
    exec (.indexWrite (.write16 v)) s = .next (s.writeIndex (v.extractLsb' 0 8)) :=
  congrArg Host.Outcome.next (if_neg (State.not_busHeld hcan))

theorem exec_indexWrite_write32 (v : BitVec 32) (hcan : s.CanCycle) :
    exec (.indexWrite (.write32 v)) s = .next (s.writeIndex (v.extractLsb' 0 8)) :=
  congrArg Host.Outcome.next (if_neg (State.not_busHeld hcan))

/-- Of a wider value the INDEX port takes the low byte, whose fields are those of the whole value. -/
theorem State.writeIndex_extractLsb' {n : Nat} (v : BitVec n) :
    s.writeIndex (v.extractLsb' 0 8) =
      { s with bus := { s.bus.afterWrite false with index := v.extractLsb' 0 7, autoIncrement := v.getLsbD 7 } } := by
  have hindex : (v.extractLsb' 0 8).extractLsb' 0 7 = v.extractLsb' 0 7 := by
    rw [BitVec.extractLsb'_extractLsb'_of_le (by decide)]
  have hauto : (v.extractLsb' 0 8).getLsbD 7 = v.getLsbD 7 := by
    rw [BitVec.getLsbD_extractLsb']
    rfl
  rw [State.writeIndex_eq, hindex, hauto]

/-- The port's byte as a number: the index, and 80H above it under auto-increment. -/
theorem State.indexPort_toNat :
    s.indexPort.toNat = s.bus.index.toNat + if s.bus.autoIncrement then 0x80 else 0 := by
  rw [State.indexPort, Frames.toNat_append_eq, Nat.add_comm]
  cases s.bus.autoIncrement <;> rfl

theorem State.readIndex_eq_ofNat :
    s.readIndex =
      { s with bus :=
        s.bus.afterRead (BitVec.ofNat 32 (s.bus.index.toNat + if s.bus.autoIncrement then 0x80 else 0)) false } := by
  have hport : 0#24 ++ s.indexPort = BitVec.ofNat 32 s.indexPort.toNat :=
    BitVec.eq_of_toNat_eq (by rw [Frames.toNat_append_eq]; bv_omega)
  rw [State.readIndex_eq, hport, State.indexPort_toNat]

/-- Settles O18: every width of write takes the low byte, and every width of read returns the port's byte. -/
theorem indexCyclesWriteAndRead : Obligations.IndexCyclesWriteAndRead := by
  intro s hcan
  refine ⟨fun v => ?_, fun v => ?_, fun v => ?_, fun c hread => ?_⟩
  · rw [exec_indexWrite_write8 v hcan, State.writeIndex_eq]
  · rw [exec_indexWrite_write16 v hcan, State.writeIndex_extractLsb']
  · rw [exec_indexWrite_write32 v hcan, State.writeIndex_extractLsb']
  · rw [exec_indexWrite_read hcan hread, State.readIndex_eq_ofNat]

/-! ## The DATA port (R168) -/

/-- The step to the next index is modulo 128: 0 follows 127. -/
theorem nextIndex_eq_ofNat (i : BitVec 7) (increments : Bool) :
    (if increments then i + 1#7 else i) = BitVec.ofNat 7 ((i.toNat + if increments then 1 else 0) % 128) := by
  cases increments with
  | true => exact BitVec.eq_of_toNat_eq (by simp)
  | false => exact BitVec.eq_of_toNat_eq (by simp [Nat.mod_eq_of_lt i.isLt])

theorem State.advanceIndex_eq :
    s.advanceIndex =
      { s with bus := { s.bus with index := if s.bus.autoIncrement then s.bus.index + 1#7 else s.bus.index } } := by
  rw [State.advanceIndex]
  cases s.bus.autoIncrement <;> rfl

theorem exec_dataRead (hcan : s.CanCycle) :
    exec .dataRead s = .next (s.advanceIndex.endRead (0#16 ++ s.readRegister s.bus.index) false) :=
  congrArg Host.Outcome.next (if_neg (State.not_busHeld hcan))

/-- Settles O19: the four wrong widths are the end of a cycle alone, and a read is that with the index's step. -/
theorem dataPortCyclesEnd : Obligations.DataPortCyclesEnd := by
  intro s hcan
  have hfree := State.not_busHeld hcan
  refine ⟨congrArg Host.Outcome.next (if_neg hfree), congrArg Host.Outcome.next (if_neg hfree),
    fun _ => congrArg Host.Outcome.next (if_neg hfree), fun _ => congrArg Host.Outcome.next (if_neg hfree), ?_⟩
  rw [exec_dataRead hcan, State.advanceIndex_eq, nextIndex_eq_ofNat]
  rfl

end Sys2Proof.Machine
end

section
/-! SUPPORT. A DATA write to the register that the index selects: the effect by the register map (R169, R178), and the rows of the
table that stand for such a write (log 6, log 7, log 23). -/

namespace Sys2Proof.Machine

variable {s : State}

/-! ## The effect on the selected register (R168) -/

theorem State.dataWrite_congr {effect effect' : State → State} (h : effect s = effect' s) :
    s.dataWrite effect = s.dataWrite effect' := by
  simp only [State.dataWrite, h]

/-- Taken or not, a DATA write is that of any effect which the selected register gives it. -/
theorem exec_registerWrite_of_effect {i : BitVec 7} {v : Half} (hi : s.bus.index = i) (effect : State → State)
    (heffect : s.writeRegister i v = effect s) : exec (.registerWrite v) s = .next (s.dataWrite effect) := by
  subst hi
  exact congrArg Host.Outcome.next (State.dataWrite_congr heffect)

/-! ## A register's own item (R170, R172, R178) -/

/-- The indices whose registers can be written (R178). -/
def writableIndices : List Nat :=
  [0x03, 0x05, 0x06, 0x07, 0x08, 0x09, 0x0A, 0x0B, 0x0C, 0x0D, 0x1B, 0x24, 0x2C, 0x2D, 0x58, 0x5A, 0x5B, 0x5C, 0x5D, 0x5E,
    0x5F]

/-- A read-only or unimplemented index ignores a write (R169). -/
theorem State.writeRegister_of_notWritable {i : BitVec 7} (v : Half) (hi : i.toNat ∉ writableIndices) :
    s.writeRegister i v = s := by
  unfold State.writeRegister
  split
  case h_22 => rfl
  all_goals
    rename_i hindex
    exact absurd (by rw [hindex]; decide) hi

/-- A DATA write to an index whose register is off the bus interface. -/
theorem exec_registerWrite_of_bus {i : BitVec 7} {v : Half} (hcan : s.CanCycle) (hi : s.bus.index = i)
    (hbus : (s.writeRegister i v).bus = s.bus) :
    exec (.registerWrite v) s = .next { s.writeRegister i v with bus := s.bus.afterDataWrite } := by
  rw [exec_registerWrite_of_effect hi (State.writeRegister i v) rfl, State.dataWrite_eq_of_bus _ hcan hbus]

/-- Index 0AH holds BERR_EN, an item of the bus interface itself (R170). -/
theorem exec_registerWrite_modes {v : Half} (hcan : s.CanCycle) (hi : s.bus.index = 0x0A#7) :
    exec (.registerWrite v) s =
      .next { s with link := { s.link with autoRejoin := v.getLsbD 0 },
                     bus := { s.bus.afterDataWrite with berrEn := v.getLsbD 1 } } := by
  rw [exec_registerWrite_of_effect hi (State.writeModes v) rfl, State.dataWrite_eq _ hcan]
  rfl

/-- Settles O22: the register map gives each index its item, and what stays off the bus interface leaves the cycle's end alone. -/
theorem registerWriteChangesItsItem : Obligations.RegisterWriteChangesItsItem := by
  intro v s hcan
  refine ⟨fun hi => ?_, fun hi => ?_, fun hi => ?_, fun hi => ?_, fun hi => ?_, exec_registerWrite_modes hcan, fun hi => ?_,
    fun hi => ?_, fun hi => ?_, fun hi => ?_, fun hi => ?_, fun hi => ?_, fun hi => ?ignored⟩
  case ignored =>
    have hignored := State.writeRegister_of_notWritable (s := s) v hi
    rw [exec_registerWrite_of_bus hcan rfl (congrArg State.bus hignored), hignored]
  all_goals exact exec_registerWrite_of_bus hcan hi rfl

/-! ## The rows that stand for a DATA write (log 6, log 7, log 23) -/

/-- Settles O23: each row is the DATA write of one effect, which the register map gives at the row's index and value. -/
theorem registerWriteReachesTheRowOfItsIndex : Obligations.RegisterWriteReachesTheRowOfItsIndex := by
  intro s
  exact ⟨fun hi => ⟨exec_registerWrite_of_effect hi State.joinCommand rfl,
      exec_registerWrite_of_effect hi State.stopCommand rfl,
      exec_registerWrite_of_effect hi State.softResetCommand rfl,
      exec_registerWrite_of_effect hi State.sweepCommand rfl,
      exec_registerWrite_of_effect hi State.syncCommand rfl,
      exec_registerWrite_of_effect hi State.popCommand rfl,
      exec_registerWrite_of_effect hi State.invalidateCommand rfl,
      exec_registerWrite_of_effect hi State.enableCommand rfl,
      exec_registerWrite_of_effect hi State.disableCommand rfl,
      exec_registerWrite_of_effect hi State.clearCountersCommand rfl,
      exec_registerWrite_of_effect hi State.clearOverflowCommand rfl,
      fun v => exec_registerWrite_of_effect hi (State.commandRegister v) rfl⟩,
    fun v => ⟨fun hi => exec_registerWrite_of_effect hi (State.writeEnables v) rfl,
      fun hi => exec_registerWrite_of_effect hi (State.writeFlags v) rfl,
      fun hi => exec_registerWrite_of_effect hi (State.writeWindowField .localLow v) rfl,
      fun hi => exec_registerWrite_of_effect hi (State.writeWindowField .localHigh v) rfl,
      fun hi => exec_registerWrite_of_effect hi (State.writeWindowField .sizeCode v) rfl,
      fun hi => exec_registerWrite_of_effect hi (State.writeWindowField .remoteLow v) rfl,
      fun hi => exec_registerWrite_of_effect hi (State.writeWindowField .remoteHigh v) rfl,
      fun hi => exec_registerWrite_of_effect hi (State.writeWindowField .attributes v) rfl⟩⟩

end Sys2Proof.Machine
end

section
/-! SUPPORT. SOFT_RESET (R175): the right column's items as at the reset input, and the left column's kept. -/

namespace Sys2Proof.Machine

variable {s : State}

theorem State.resetWith_get (straps : BitVec 4) (i : SetIndex) : (State.resetWith straps).dir.get i = CacheSet.cleared :=
  Vector.getElem_replicate i.isLt

theorem State.resetWith_entry (straps : BitVec 4) (tag : Fin 4) :
    (State.resetWith straps).reads.entries[tag] = ReadEntry.reset :=
  Vector.getElem_replicate tag.isLt

/-- Without a flag the interrupt output is off, whatever is enabled (R166). -/
theorem State.interruptOutput_of_clear (h : s.irq.flags = FlagSet.clear) : s.interruptOutput = false := by
  simp [State.interruptOutput, h, FlagSet.clear]

/-- The right column of R175, with any bus interface on which no access is pending. -/
theorem State.softResetCommand_cleared {b : BusInterface} (haccess : b.access = none) :
    { s.softResetCommand with bus := b }.Cleared := by
  constructor
  case sets => exact State.resetWith_get s.link.boardNumber
  case entries =>
    intro tag
    have hentry : ({ s.softResetCommand with bus := b } : State).reads.entries[tag] = ReadEntry.reset :=
      State.resetWith_entry s.link.boardNumber tag
    rw [hentry]
    exact ⟨rfl, rfl, rfl, rfl⟩
  case access => exact haccess
  case interrupt => exact State.interruptOutput_of_clear rfl
  all_goals rfl

/-- The command's DATA write around its effect (R168): the INDEX port and BERR_EN are kept, and the cycle ends after the reset. -/
theorem exec_softReset (hcan : s.CanCycle) :
    exec .softReset s = .next { s.softResetCommand with bus := s.bus.afterDataWrite } :=
  congrArg Host.Outcome.next (State.dataWrite_eq State.softResetCommand hcan)

/-- Settles O28: the state of the reset input stands in the right column, and the left column's items are put back into it. -/
theorem softResetKeepsConfiguration : Obligations.SoftResetKeepsConfiguration := by
  intro s hcan
  exact ⟨_, exec_softReset hcan, State.softResetCommand_cleared rfl, rfl, rfl, rfl, rfl, rfl, rfl, rfl, rfl, rfl⟩

end Sys2Proof.Machine
end

section
/-! SUPPORT. Outbound frames (R176): the fields of a frame as numbers, and each kind's bytes with the CRC behind them. -/

namespace Sys2Proof.Frames

/-! ## Bytes as numbers (R176) -/

theorem toNat_zeros_append {n : Nat} (k : Nat) (x : BitVec n) : (0#k ++ x).toNat = x.toNat := by
  simp

/-- A field with zeros above it. -/
theorem zeros_append_eq_ofNat {n : Nat} (k : Nat) (x : BitVec n) : 0#k ++ x = BitVec.ofNat (k + n) x.toNat := by
  rw [← toNat_zeros_append k, BitVec.ofNat_toNat, BitVec.setWidth_eq]

theorem extractLsb'_eq_ofNat {n : Nat} (x : BitVec n) (low len : Nat) :
    x.extractLsb' low len = BitVec.ofNat len (x.toNat / 2 ^ low) := by
  rw [BitVec.extractLsb', Nat.shiftRight_eq_div_pow]

theorem extractLsb'_zero_eq_ofNat {n : Nat} (x : BitVec n) (len : Nat) : x.extractLsb' 0 len = BitVec.ofNat len x.toNat := by
  rw [extractLsb'_eq_ofNat, Nat.pow_zero, Nat.div_one]

/-- The part from bit `low` to the top, with zeros above it. -/
theorem zeros_append_extractLsb' {n : Nat} (k low : Nat) (x : BitVec (n + low)) :
    0#k ++ x.extractLsb' low n = BitVec.ofNat (k + n) (x.toNat / 2 ^ low) := by
  have htop : x.toNat / 2 ^ low < 2 ^ n := Nat.div_lt_of_lt_mul (by rw [← Nat.pow_add']; exact x.isLt)
  rw [zeros_append_eq_ofNat, extractLsb'_eq_ofNat, BitVec.toNat_ofNat, Nat.mod_eq_of_lt htop]

theorem lineBytes_eq (l : LineAddr) :
    lineBytes l =
      [BitVec.ofNat 8 l.toNat, BitVec.ofNat 8 (l.toNat / 0x100), BitVec.ofNat 8 (l.toNat / 0x10000)] := by
  rw [lineBytes, extractLsb'_zero_eq_ofNat, extractLsb'_eq_ofNat l 8 8, zeros_append_extractLsb' 1 16 l]
  rfl

theorem tagIssue_eq (tag : Fin 4) (issue : Issue) : tagIssue tag issue = BitVec.ofNat 8 (tag.val + 4 * issue.toNat) := by
  revert tag issue
  decide

/-- Tag, issue and size code in one byte. -/
theorem wordField_eq (tag : Fin 4) (issue : Issue) (size : Size) :
    (0#2 ++ sizeCode size ++ issue ++ BitVec.ofFin (w := 2) tag : Byte) =
      BitVec.ofNat 8 (tag.val + 4 * issue.toNat + 16 * (sizeCode size).toNat) := by
  revert tag issue
  cases size <;> decide

/-- The present flag's complement in bit 7, above the issue. -/
theorem absentThrough_eq (issue : Issue) : (0x20#6 ++ issue : Byte) = BitVec.ofNat 8 (0x80 + issue.toNat) := by
  revert issue
  decide

/-! ## The bytes of each kind (R176, R177) -/

/-- A body with its CRC ends in two bytes. -/
theorem exists_crcBytes {bytes body : List Byte} (h : bytes = withCrc body) : ∃ c d : Byte, bytes = body ++ [c, d] :=
  ⟨_, _, h⟩

theorem outBytes_join (board : BitVec 4) (rev : BitVec 8) :
    outBytes (.join board rev) = withCrc [0x10#8, BitVec.ofNat 8 board.toNat, rev] := by
  rw [outBytes, zeros_append_eq_ofNat 4 board]

theorem outBytes_readLine (tag : Fin 4) (issue : Issue) (a : LineAddr) :
    outBytes (.readLine tag issue a) =
      withCrc [0x11#8, BitVec.ofNat 8 (tag.val + 4 * issue.toNat), BitVec.ofNat 8 a.toNat,
        BitVec.ofNat 8 (a.toNat / 0x100), BitVec.ofNat 8 (a.toNat / 0x10000)] := by
  rw [outBytes, tagIssue_eq, lineBytes_eq]

theorem outBytes_readWord (tag : Fin 4) (issue : Issue) (size : Size) (a : RemoteAddr) :
    outBytes (.readWord tag issue size a) =
      withCrc [0x12#8, BitVec.ofNat 8 (tag.val + 4 * issue.toNat + 16 * (sizeCode size).toNat), BitVec.ofNat 8 a.toNat,
        BitVec.ofNat 8 (a.toNat / 0x100), BitVec.ofNat 8 (a.toNat / 0x10000), BitVec.ofNat 8 (a.toNat / 0x1000000)] := by
  rw [outBytes, wordField_eq, extractLsb'_zero_eq_ofNat, extractLsb'_eq_ofNat a 8 8, extractLsb'_eq_ofNat a 16 8,
    zeros_append_extractLsb' 4 24 a]
  rfl

theorem outBytes_write (seq : Seq) (block : LineAddr) (mask : BitVec 32) (data : Line) :
    outBytes (.write seq block mask data) =
      withCrc ([0x13#8, seq, BitVec.ofNat 8 block.toNat, BitVec.ofNat 8 (block.toNat / 0x100),
        BitVec.ofNat 8 (block.toNat / 0x10000), BitVec.ofNat 8 mask.toNat, BitVec.ofNat 8 (mask.toNat / 0x100),
        BitVec.ofNat 8 (mask.toNat / 0x10000), BitVec.ofNat 8 (mask.toNat / 0x1000000)] ++ data.toList) := by
  rw [outBytes, lineBytes_eq, extractLsb'_zero_eq_ofNat, extractLsb'_eq_ofNat mask 8 8, extractLsb'_eq_ofNat mask 16 8,
    extractLsb'_eq_ofNat mask 24 8]
  rfl

theorem outBytes_sync_some (issue : Issue) (u : Seq) :
    outBytes (.sync issue (some u)) = withCrc [0x14#8, BitVec.ofNat 8 issue.toNat, u] := by
  rw [outBytes, zeros_append_eq_ofNat 6 issue]

theorem outBytes_sync_none (issue : Issue) :
    outBytes (.sync issue none) = withCrc [0x14#8, BitVec.ofNat 8 (0x80 + issue.toNat), 0#8] := by
  rw [outBytes, absentThrough_eq]

theorem length_withCrc (body : List Byte) : (withCrc body).length = body.length + 2 := by
  simp [withCrc]

/-- A WRITE frame is 43 bytes whatever its mask (R176). -/
theorem length_outBytes_write (seq : Seq) (block : LineAddr) (mask : BitVec 32) (data : Line) :
    (outBytes (.write seq block mask data)).length = 43 := by
  rw [outBytes_write, length_withCrc, List.length_append, Vector.length_toList]
  rfl

/-- Every outbound frame is intact (R177). -/
theorem crc_outBytes (f : OutFrame) : crc (outBytes f) = 0#16 := by
  cases f with
  | sync issue through => cases through <;> exact crc_withCrc _
  | join | readLine | readWord | write => exact crc_withCrc _

/-- The CRC of "123456789" (R177). -/
theorem crc_digits :
    crc [0x31#8, 0x32#8, 0x33#8, 0x34#8, 0x35#8, 0x36#8, 0x37#8, 0x38#8, 0x39#8] = 0x29B1#16 := by
  decide +kernel

/-- Settles O15: each kind's layout is a body of R176 with its CRC, which makes the whole check to 0. -/
theorem outboundFramesAreWellMade : Obligations.OutboundFramesAreWellMade := by
  refine ⟨fun board rev => exists_crcBytes (outBytes_join board rev),
    fun tag issue a => exists_crcBytes (outBytes_readLine tag issue a),
    fun tag issue size a => ?_,
    fun seq block mask data => ?_,
    fun issue u => exists_crcBytes (outBytes_sync_some issue u),
    fun issue => exists_crcBytes (outBytes_sync_none issue), crc_outBytes, crc_digits⟩
  · cases size <;> exact exists_crcBytes (outBytes_readWord tag issue _ a)
  · obtain ⟨c, d, hbytes⟩ := exists_crcBytes (outBytes_write seq block mask data)
    exact ⟨c, d, hbytes, length_outBytes_write seq block mask data⟩

end Sys2Proof.Frames
end

section
/-! SUPPORT. What the registers read as (R178): a register of several fields as the bits of each at its place, the window
registers as numbers, the indices that no register has, and the reset column. -/

namespace Sys2Proof.Machine

variable {s : State}

/-! ## Fields of a register (R178) -/

theorem field_eq_ofNat (low n : Nat) : field low n = BitVec.ofNat 16 (n * 2 ^ low) := by
  apply BitVec.eq_of_toNat_eq
  simp [field, Nat.shiftLeft_eq, Nat.mod_mul_mod]

/-- Bits that have a field's number show it. -/
theorem field_zero_eq {n : Nat} {v : Half} (h : v.toNat = n) : field 0 n = v := by
  rw [field_eq_ofNat, Nat.pow_zero, Nat.mul_one, ← h, BitVec.ofNat_toNat, BitVec.setWidth_eq]

/-- Fields that lie apart add up. -/
theorem field_or_field {n low : Nat} (m : Nat) (h : n < 2 ^ low) : field 0 n ||| field low m = field 0 (n + m * 2 ^ low) := by
  have hsum : n ||| m * 2 ^ low = n + m * 2 ^ low := by
    rw [Nat.or_comm, ← Nat.shiftLeft_eq, ← Nat.shiftLeft_add_eq_or_of_lt h, Nat.add_comm]
  simp only [field_eq_ofNat, Nat.pow_zero, Nat.mul_one, ← BitVec.ofNat_or, hsum]

theorem flag_eq_field (bit : Nat) (b : Bool) : flag bit b = field bit b.toNat := by
  cases b <;> simp [flag, field]

/-- An absent item is a field of number 0. -/
theorem orZero_field {α : Type} (x : Option α) (low : Nat) (number : α → Nat) :
    orZero x (fun a => field low (number a)) = field low (x.elim 0 number) := by
  cases x with
  | none => simp [orZero, field]
  | some a => rfl

theorem flag_zero_eq (b : Bool) : flag 0 b = 0#15 ++ BitVec.ofBool b := by
  cases b <;> rfl

theorem flag_or_flag (a b : Bool) : flag 0 a ||| flag 1 b = 0#14 ++ BitVec.ofBool b ++ BitVec.ofBool a := by
  cases a <;> cases b <;> rfl

/-! ## Registers of several fields (R178) -/

/-- Indices 14H and 1AH. -/
theorem optionalSeq_eq (q : Option Seq) : optionalSeq q = BitVec.ofBool q.isSome ++ 0#7 ++ q.getD 0#8 := by
  cases q with
  | none => rfl
  | some u =>
    rw [optionalSeq, orZero, flag_eq_field, field_or_field _ (by omega)]
    apply field_zero_eq
    simp only [Frames.toNat_append_eq, BitVec.toNat_ofNat, BitVec.toNat_ofBool, Option.getD_some, Option.isSome_some]
    omega

/-- Index 08H. -/
theorem settingsRegister_eq (retryLimit : BitVec 3) (t : BitVec 7) :
    field 0 t.toNat ||| field 8 retryLimit.toNat = 0#5 ++ retryLimit ++ 0#1 ++ t := by
  rw [field_or_field _ (by omega)]
  apply field_zero_eq
  simp only [Frames.toNat_append_eq, BitVec.toNat_ofNat]
  omega

/-- Index 19H. -/
theorem twoBytes_eq (low high : BitVec 8) : field 0 low.toNat ||| field 8 high.toNat = high ++ low := by
  rw [field_or_field _ low.isLt]
  apply field_zero_eq
  rw [Frames.toNat_append_eq, Nat.add_comm]

/-- Index 40H. -/
theorem recordsRegister_eq {held : Nat} (overflow : BitVec 8) (h : held ≤ 8) :
    field 0 held ||| field 8 overflow.toNat = overflow ++ 0#4 ++ BitVec.ofNat 4 held := by
  rw [field_or_field _ (by omega)]
  apply field_zero_eq
  simp only [Frames.toNat_append_eq, BitVec.toNat_ofNat]
  omega

/-- Index 10H, its named values by the numbers of the code table. -/
theorem State.linkRegister_eq {cause : BitVec 3} {state : BitVec 2} (hcause : cause.toNat = s.link.lastCause.elim 0 causeCode)
    (hstate : state.toNat = linkCode s.link.state) :
    s.linkRegister = 0#5 ++ cause ++ 0#1 ++ s.link.joinRetries ++ 0#2 ++ state := by
  rw [State.linkRegister, orZero_field, ← hcause, ← hstate, field_or_field _ (by omega), field_or_field _ (by omega)]
  apply field_zero_eq
  simp only [Frames.toNat_append_eq, BitVec.toNat_ofNat]
  omega

/-- Index 12H. -/
theorem State.sweepRegister_eq :
    s.sweepRegister = BitVec.ofBool s.sweep.isRunning ++ 0#6 ++ BitVec.ofNat 9 s.sweep.position := by
  have hposition : s.sweep.position ≤ 256 := by
    rcases s.sweep with (_ | _) | p
    · exact Nat.zero_le _
    · exact Nat.le_refl _
    · exact Nat.le_of_lt p.isLt
  rw [State.sweepRegister, flag_eq_field, field_or_field _ (by omega)]
  apply field_zero_eq
  simp only [Frames.toNat_append_eq, BitVec.toNat_ofNat, BitVec.toNat_ofBool]
  omega

/-- Index 13H, its named values by the numbers of the code table. -/
theorem State.syncRegister_eq {mark : BitVec 2} {state : BitVec 3} (hmark : mark.toNat = markCode s.sync.mark)
    (hstate : state.toNat = syncCode s.sync.state) :
    s.syncRegister = 0#1 ++ s.sync.retries ++ 0#2 ++ s.sync.issue ++ 0#2 ++ mark ++ 0#1 ++ state := by
  rw [State.syncRegister, ← hmark, ← hstate, field_or_field _ (by omega), field_or_field _ (by omega),
    field_or_field _ (by omega)]
  apply field_zero_eq
  simp only [Frames.toNat_append_eq, BitVec.toNat_ofNat]
  omega

/-- Index 18H: three counts of a queue that holds at most 8 entries (R48). -/
theorem State.queueRegister_eq (h : s.wq.entries.length ≤ 8) :
    s.queueRegister = 0#1 ++ s.wq.replayCount ++ BitVec.ofNat 4 (s.wq.entries.countP WriteEntry.isReplay) ++
      BitVec.ofNat 4 (s.wq.entries.countP WriteEntry.isSent) ++ BitVec.ofNat 4 s.wq.entries.length := by
  have hsent : s.wq.entries.countP WriteEntry.isSent ≤ s.wq.entries.length := List.countP_le_length
  have hreplay : s.wq.entries.countP WriteEntry.isReplay ≤ s.wq.entries.length := List.countP_le_length
  rw [State.queueRegister, field_or_field _ (by omega), field_or_field _ (by omega), field_or_field _ (by omega)]
  apply field_zero_eq
  simp only [Frames.toNat_append_eq, BitVec.toNat_ofNat]
  omega

/-! ## The window registers (R113, R115) -/

/-- The low half of a base: its page's low four bits, above the twelve that a base does not have. -/
theorem pageBase_low {n : Nat} (page : BitVec n) :
    page.extractLsb' 0 4 ++ 0#12 = BitVec.ofNat 16 (page.toNat * 0x1000 % 0x10000) := by
  apply BitVec.eq_of_toNat_eq
  simp only [Frames.toNat_append_eq, BitVec.toNat_ofNat, BitVec.extractLsb'_toNat, Nat.shiftRight_zero]
  omega

/-- The high half of a base: its page's bits above the low four. -/
theorem pageBase_high {n : Nat} (k : Nat) (page : BitVec (n + 4)) :
    0#k ++ page.extractLsb' 4 n = BitVec.ofNat (k + n) (page.toNat * 0x1000 / 0x10000) := by
  rw [Frames.zeros_append_extractLsb', show page.toNat * 0x1000 / 0x10000 = page.toNat / 2 ^ 4 by omega]

/-! ## The indices that no register has (R169) -/

/-- The unimplemented indices below 60H; every index from 60H on is unimplemented too (R178). -/
def unimplementedIndices : List Nat :=
  [0x0E, 0x0F, 0x15, 0x16, 0x17, 0x21, 0x22, 0x23, 0x29, 0x2A, 0x2B, 0x49, 0x4A, 0x4B, 0x4C, 0x4D, 0x4E, 0x4F, 0x57]

/-- An unimplemented index is none of those that the register map names. -/
theorem State.readRegister_of_unimplemented {i : BitVec 7} (hi : i.toNat ∈ unimplementedIndices ∨ 0x60 ≤ i.toNat) :
    s.readRegister i = 0#16 := by
  unfold State.readRegister
  split
  case h_77 => rfl
  all_goals
    rename_i hindex
    rw [hindex] at hi
    exact absurd hi (by decide)

/-- Settles O20: each register shows its fields, and an index without one is in no row of the register map. -/
theorem statusRegistersShowTheirFields : Obligations.StatusRegistersShowTheirFields := by
  rintro s ⟨hheld, -⟩ ⟨hlength, -⟩
  have hwindow (w : Window) : w.localBase = 0x1000 * w.localPage.toNat ∧ w.remoteBase = 0x1000 * w.remotePage.toNat ∧
      w.size = 0x1000 * 2 ^ w.sizeCode.toNat := ⟨Nat.mul_comm _ _, Nat.mul_comm _ _, rfl⟩
  refine ⟨rfl, rfl, rfl, rfl, field_zero_eq ((Frames.toNat_zeros_append 13 _).trans ?status),
    field_zero_eq (Frames.toNat_zeros_append 13 _), rfl, rfl,
    settingsRegister_eq s.settings.retryLimit s.settings.t, field_zero_eq (Frames.toNat_zeros_append 8 _),
    flag_or_flag s.link.autoRejoin s.bus.berrEn, flag_zero_eq s.dir.hold, rfl, rfl,
    State.linkRegister_eq ?cause ?linkState, field_zero_eq (Frames.toNat_zeros_append 8 _), State.sweepRegister_eq,
    State.syncRegister_eq ?mark ?syncState, optionalSeq_eq s.sync.through, State.queueRegister_eq hlength,
    twoBytes_eq s.wq.nws s.wq.rt, optionalSeq_eq s.wq.lastAssigned, recordsRegister_eq s.records.overflow hheld,
    rfl, rfl, rfl, rfl, rfl, rfl, rfl,
    field_zero_eq (Frames.toNat_zeros_append 13 _), field_zero_eq (Frames.toNat_zeros_append 14 _),
    field_zero_eq (Frames.toNat_zeros_append 8 _), field_zero_eq (Frames.toNat_zeros_append 14 _),
    field_zero_eq (Frames.toNat_zeros_append 13 _), flag_zero_eq (s.windows[s.sel.window]).enabled,
    pageBase_low (s.windows[s.sel.window]).localPage, pageBase_high 6 (s.windows[s.sel.window]).localPage, rfl,
    pageBase_low (s.windows[s.sel.window]).remotePage, pageBase_high 4 (s.windows[s.sel.window]).remotePage, rfl,
    hwindow, fun i hi => State.readRegister_of_unimplemented hi⟩
  case status => cases s.cmd.status <;> rfl
  case cause =>
    cases s.link.lastCause with
    | none => rfl
    | some cause => cases cause <;> rfl
  case linkState => cases s.link.state <;> rfl
  case mark => cases s.sync.mark <;> rfl
  case syncState => cases s.sync.state <;> rfl

/-! ## The reset column (R178) -/

/-- Settles O6: the state right after reset is closed, and each of the 128 indices is read in it. -/
theorem registerResetColumn : Obligations.RegisterResetColumn := by
  unfold Obligations.RegisterResetColumn
  decide +kernel

end Sys2Proof.Machine
end

section
/-! SUPPORT. What every command completes with: a next state, with the model's own queue of waiting commands as it was (log 1)
and, but for the two reset commands, the pins. The step takes the queue's front before the command runs. -/

namespace Sys2Proof.Machine

variable {s : State}

/-! ## The step (log 1) -/

theorem step_cons {c : Instr} {rest : List Instr} (h : s.pending = c :: rest) :
    step s = exec c { s with pending := rest } := by
  simp only [step, h]

/-- Settles O1: the queue's rest is the queue of the state that the command was put before. -/
theorem stepRunsFrontCommand : Obligations.StepRunsFrontCommand :=
  fun _ _ => step_cons rfl

/-! ## What lies outside a command's reach -/

/-- The pins and the queue of waiting commands go unchanged from one state to another. -/
structure State.KeepsOutside (s t : State) : Prop where
  pending : t.pending = s.pending
  pins : t.pins = s.pins

namespace State.KeepsOutside

variable {t u : State}

theorem refl (s : State) : s.KeepsOutside s := ⟨rfl, rfl⟩

theorem trans (h : s.KeepsOutside t) (h' : t.KeepsOutside u) : s.KeepsOutside u :=
  ⟨h'.pending.trans h.pending, h'.pins.trans h.pins⟩

theorem setStatus (h : s.KeepsOutside t) (status : CommandStatus) : s.KeepsOutside (t.setStatus status) :=
  h.trans ⟨State.setStatus_pending .., State.setStatus_pins ..⟩

/-- The transmitter's choice reaches neither (R102). -/
theorem transmit (h : s.KeepsOutside t) : s.KeepsOutside t.transmit :=
  h.trans ⟨State.transmit_pending t, State.transmit_pins t⟩

end State.KeepsOutside

theorem State.keepsOutside_fail (cause : Cause) (s : State) : s.KeepsOutside (s.fail cause) :=
  ⟨State.fail_pending .., State.fail_pins ..⟩

theorem State.keepsOutside_startSweep (s : State) : s.KeepsOutside s.startSweep :=
  ⟨State.startSweep_pending s, State.startSweep_pins s⟩

theorem State.keepsOutside_teardown (s : State) : s.KeepsOutside s.teardown :=
  ⟨State.teardown_pending s, State.teardown_pins s⟩

theorem State.keepsOutside_setWindow (i : Fin 8) (w : Window) (s : State) : s.KeepsOutside (s.setWindow i w) :=
  ⟨State.setWindow_pending .., State.setWindow_pins ..⟩

/-! ## Cycles on the local bus -/

theorem State.keepsOutside_apertureRead (c : Cycle) (s : State) : s.KeepsOutside (s.apertureRead c) := by
  unfold State.apertureRead
  split
  · exact .refl s
  · split
    · constructor <;> simp
    · exact State.KeepsOutside.transmit ⟨State.startRead_pending .., State.startRead_pins ..⟩

theorem State.keepsOutside_apertureWrite (c : Cycle) (data : BitVec 32) (s : State) :
    s.KeepsOutside (s.apertureWrite c data) := by
  unfold State.apertureWrite
  split
  · exact .refl s
  · split
    · constructor <;> simp
    · exact State.KeepsOutside.transmit ⟨State.presentWrite_pending .., State.presentWrite_pins ..⟩

/-- A DATA write reaches no further than its effect on the register and the bus interface (R168). -/
theorem State.KeepsOutside.dataWrite {effect : State → State} (h : s.KeepsOutside (effect s)) :
    s.KeepsOutside (s.dataWrite effect) := by
  cases hheld : s.busHeld with
  | true =>
    rw [State.dataWrite_held effect hheld]
    exact .refl s
  | false =>
    rw [State.dataWrite_eq effect (State.busHeld_iff.mp hheld)]
    exact ⟨h.pending, h.pins⟩

theorem State.keepsOutside_indexCycle (c : IndexCycle) (s : State) : s.KeepsOutside (s.indexCycle c) := by
  unfold State.indexCycle
  split
  · exact .refl s
  · cases c <;> exact ⟨rfl, rfl⟩

theorem State.keepsOutside_wrongWidth (access : WrongWidth) (s : State) : s.KeepsOutside (s.wrongWidth access) := by
  unfold State.wrongWidth
  split
  · exact .refl s
  · cases access <;> exact ⟨rfl, rfl⟩

theorem State.keepsOutside_dataRead (s : State) : s.KeepsOutside s.dataRead := by
  unfold State.dataRead State.advanceIndex
  split
  · exact .refl s
  · split <;> exact ⟨rfl, rfl⟩

/-! ## The commands of the command register (R172) -/

theorem State.keepsOutside_joinCommand (s : State) : s.KeepsOutside s.joinCommand := by
  have hbegin : s.KeepsOutside s.beginJoin := ⟨State.beginJoin_pending s, State.beginJoin_pins s⟩
  unfold State.joinCommand
  split
  · exact (State.KeepsOutside.refl s).setStatus _
  · exact (State.KeepsOutside.refl s).setStatus _
  all_goals
    split
    · exact (State.KeepsOutside.refl s).setStatus _
    · exact hbegin.transmit.setStatus _

/-- The last part of a STOP: the link is DOWN and the status DONE (R96, R173). -/
theorem State.keepsOutside_down (s : State) :
    s.KeepsOutside ({ s with link := { s.link with state := .down } }.setStatus .done) :=
  ⟨rfl, rfl⟩

theorem State.keepsOutside_stopCommand (s : State) : s.KeepsOutside s.stopCommand := by
  unfold State.stopCommand
  split
  · exact (State.keepsOutside_teardown s).trans (State.keepsOutside_down _)
  · exact (State.keepsOutside_teardown s).trans (State.keepsOutside_down _)
  all_goals exact (State.keepsOutside_startSweep s).trans (State.keepsOutside_down _)

/-- SOFT_RESET keeps both by name (R175). -/
theorem State.keepsOutside_softResetCommand (s : State) : s.KeepsOutside s.softResetCommand :=
  ⟨rfl, rfl⟩

theorem State.keepsOutside_sweepCommand (s : State) : s.KeepsOutside s.sweepCommand :=
  (State.keepsOutside_startSweep s).setStatus _

theorem State.keepsOutside_syncCommand (s : State) : s.KeepsOutside s.syncCommand := by
  have haccept : s.KeepsOutside s.acceptBarrier := ⟨State.acceptBarrier_pending s, State.acceptBarrier_pins s⟩
  unfold State.syncCommand
  split
  · split
    · exact (State.KeepsOutside.refl s).setStatus _
    · exact (State.KeepsOutside.refl s).setStatus _
    all_goals exact haccept.transmit.setStatus _
  all_goals exact (State.KeepsOutside.refl s).setStatus _

theorem State.keepsOutside_popCommand (s : State) : s.KeepsOutside s.popCommand := by
  unfold State.popCommand
  split <;> exact ⟨rfl, rfl⟩

theorem State.keepsOutside_invalidateCommand (s : State) : s.KeepsOutside s.invalidateCommand :=
  State.KeepsOutside.setStatus ⟨State.dropLine_pending .., State.dropLine_pins ..⟩ _

theorem State.keepsOutside_enableCommand (s : State) : s.KeepsOutside s.enableCommand := by
  unfold State.enableCommand
  dsimp only
  split
  · exact (State.keepsOutside_setWindow ..).setStatus _
  · exact (State.KeepsOutside.refl s).setStatus _

theorem State.keepsOutside_disableCommand (s : State) : s.KeepsOutside s.disableCommand :=
  (State.keepsOutside_setWindow ..).setStatus _

theorem State.keepsOutside_clearCountersCommand (s : State) : s.KeepsOutside s.clearCountersCommand :=
  ⟨rfl, rfl⟩

theorem State.keepsOutside_clearOverflowCommand (s : State) : s.KeepsOutside s.clearOverflowCommand :=
  ⟨rfl, rfl⟩

theorem State.keepsOutside_commandRegister (v : Half) (s : State) : s.KeepsOutside (s.commandRegister v) := by
  unfold State.commandRegister
  split
  · exact s.keepsOutside_joinCommand
  · exact s.keepsOutside_stopCommand
  · exact s.keepsOutside_softResetCommand
  · exact s.keepsOutside_sweepCommand
  · exact s.keepsOutside_syncCommand
  · exact s.keepsOutside_popCommand
  · exact s.keepsOutside_invalidateCommand
  · exact s.keepsOutside_enableCommand
  · exact s.keepsOutside_disableCommand
  · exact s.keepsOutside_clearCountersCommand
  · exact s.keepsOutside_clearOverflowCommand
  · exact (State.KeepsOutside.refl s).setStatus _

/-! ## The registers (R169, R178) -/

theorem State.keepsOutside_writeWindowField (field : WindowField) (v : Half) (s : State) :
    s.KeepsOutside (s.writeWindowField field v) := by
  cases h : (s.windows[s.sel.window]).enabled with
  | true =>
    rw [State.writeWindowField_of_enabled field v h]
    exact .refl s
  | false =>
    rw [State.writeWindowField_of_disabled field v h]
    exact State.keepsOutside_setWindow ..

/-- A register is a command, a window field or an item of its block. -/
theorem State.keepsOutside_writeRegister (i : BitVec 7) (v : Half) (s : State) : s.KeepsOutside (s.writeRegister i v) := by
  unfold State.writeRegister
  split
  case h_1 => exact s.keepsOutside_commandRegister v
  case h_16 | h_17 | h_18 | h_19 | h_20 | h_21 => exact s.keepsOutside_writeWindowField _ v
  all_goals exact ⟨rfl, rfl⟩

/-! ## Arriving frames (R105) -/

theorem State.keepsOutside_receive (f : InFrame) (s : State) : s.KeepsOutside (s.receive f) :=
  ⟨State.receive_pending .., State.receive_pins ..⟩

theorem State.keepsOutside_receiveBytes (bytes : List Byte) (s : State) : s.KeepsOutside (s.receiveBytes bytes) := by
  unfold State.receiveBytes
  split
  · exact .refl s
  · split
    · exact .refl s
    · exact .refl s
    all_goals
      split
      · exact ⟨State.bump_pending .., State.bump_pins ..⟩
      · exact s.keepsOutside_receive _

/-! ## The events of the part itself -/

theorem State.keepsOutside_endTransmission (s : State) : s.KeepsOutside s.endTransmission := by
  unfold State.endTransmission
  split
  · exact State.KeepsOutside.transmit ⟨rfl, rfl⟩
  · exact .refl s

theorem State.keepsOutside_expireResponse (tag : Fin 4) (s : State) : s.KeepsOutside (s.expireResponse tag) := by
  unfold State.expireResponse
  split
  · split
    · split
      · exact State.KeepsOutside.transmit ⟨State.resendRead_pending .., State.resendRead_pins ..⟩
      · exact s.keepsOutside_fail _
    · exact .refl s
  · exact .refl s

theorem State.keepsOutside_expireWrite (s : State) : s.KeepsOutside s.expireWrite := by
  unfold State.expireWrite
  split
  · split
    · exact State.KeepsOutside.transmit ⟨State.replay_pending s, State.replay_pins s⟩
    · exact s.keepsOutside_fail _
  · exact .refl s

theorem State.keepsOutside_expireSync (s : State) : s.KeepsOutside s.expireSync := by
  unfold State.expireSync
  split
  · split
    · exact State.KeepsOutside.transmit ⟨State.resendSync_pending s, State.resendSync_pins s⟩
    · exact s.keepsOutside_fail _
  · exact .refl s

theorem State.keepsOutside_failJoin (s : State) : s.KeepsOutside s.failJoin := by
  constructor <;> simp [State.failJoin]

theorem State.keepsOutside_expireJoin (s : State) : s.KeepsOutside s.expireJoin := by
  unfold State.expireJoin
  split
  · split
    · exact State.KeepsOutside.transmit ⟨State.resendJoin_pending s, State.resendJoin_pins s⟩
    · exact s.keepsOutside_failJoin
  · exact .refl s

theorem State.keepsOutside_expireQuiet (s : State) : s.KeepsOutside s.expireQuiet := by
  unfold State.expireQuiet
  split
  · exact s.keepsOutside_fail _
  · exact .refl s

theorem State.keepsOutside_stepSweep (s : State) : s.KeepsOutside s.stepSweep := by
  unfold State.stepSweep
  split
  · dsimp only
    split <;> exact ⟨rfl, rfl⟩
  · exact .refl s

/-! ## Every command -/

/-- Every command but RESET_INPUT and RESET_DEASSERTION has a next state, with the pins and the waiting commands as they were. -/
theorem State.keepsOutside_exec (s : State) {c : Instr} (hinput : ∀ straps, c ≠ .resetInput straps)
    (hdeassertion : c ≠ .resetDeassertion) : ∃ t, exec c s = .next t ∧ s.KeepsOutside t := by
  cases c with
  | resetInput straps => exact absurd rfl (hinput straps)
  | resetDeassertion => exact absurd rfl hdeassertion
  | apertureRead cycle => exact ⟨_, rfl, s.keepsOutside_apertureRead cycle⟩
  | apertureWrite cycle data => exact ⟨_, rfl, s.keepsOutside_apertureWrite cycle data⟩
  | readResumesFreeEntry =>
    exact ⟨_, rfl, State.KeepsOutside.transmit ⟨State.resumeFreeEntry_pending s, State.resumeFreeEntry_pins s⟩⟩
  | writeResumesQueueSpace =>
    exact ⟨_, rfl, State.KeepsOutside.transmit ⟨State.resumeQueueSpace_pending s, State.resumeQueueSpace_pins s⟩⟩
  | orderedReadDispatch =>
    exact ⟨_, rfl, State.KeepsOutside.transmit ⟨State.resumeQueueEmpty_pending s, State.resumeQueueEmpty_pins s⟩⟩
  | indexWrite cycle => exact ⟨_, rfl, s.keepsOutside_indexCycle cycle⟩
  | dataWrongWidth access => exact ⟨_, rfl, s.keepsOutside_wrongWidth access⟩
  | dataRead => exact ⟨_, rfl, s.keepsOutside_dataRead⟩
  | registerWrite v => exact ⟨_, rfl, (s.keepsOutside_writeRegister s.bus.index v).dataWrite⟩
  | windowFieldWrite field v => exact ⟨_, rfl, (s.keepsOutside_writeWindowField field v).dataWrite⟩
  | interruptFlagClear v => exact ⟨_, rfl, State.KeepsOutside.dataWrite (effect := State.writeFlags v) ⟨rfl, rfl⟩⟩
  | interruptEnableWrite v => exact ⟨_, rfl, State.KeepsOutside.dataWrite (effect := State.writeEnables v) ⟨rfl, rfl⟩⟩
  | join => exact ⟨_, rfl, s.keepsOutside_joinCommand.dataWrite⟩
  | stop => exact ⟨_, rfl, s.keepsOutside_stopCommand.dataWrite⟩
  | softReset => exact ⟨_, rfl, s.keepsOutside_softResetCommand.dataWrite⟩
  | sweep => exact ⟨_, rfl, s.keepsOutside_sweepCommand.dataWrite⟩
  | sync => exact ⟨_, rfl, s.keepsOutside_syncCommand.dataWrite⟩
  | popRecord => exact ⟨_, rfl, s.keepsOutside_popCommand.dataWrite⟩
  | invalidateLine => exact ⟨_, rfl, s.keepsOutside_invalidateCommand.dataWrite⟩
  | enableWindow => exact ⟨_, rfl, s.keepsOutside_enableCommand.dataWrite⟩
  | disableWindow => exact ⟨_, rfl, s.keepsOutside_disableCommand.dataWrite⟩
  | clearCounters => exact ⟨_, rfl, s.keepsOutside_clearCountersCommand.dataWrite⟩
  | clearOverflow => exact ⟨_, rfl, s.keepsOutside_clearOverflowCommand.dataWrite⟩
  | unknownCommand v => exact ⟨_, rfl, (s.keepsOutside_commandRegister v).dataWrite⟩
  | welcome | lineData | wordData | writeAck | syncAck | notice | tick | restart =>
    exact ⟨_, rfl, State.keepsOutside_receive _ s⟩
  | corruptFrame bytes | frameWhileDown bytes => exact ⟨_, rfl, s.keepsOutside_receiveBytes bytes⟩
  | transmissionEnd => exact ⟨_, rfl, s.keepsOutside_endTransmission⟩
  | responseTimerExpiry tag => exact ⟨_, rfl, s.keepsOutside_expireResponse tag⟩
  | writeTimerExpiry => exact ⟨_, rfl, s.keepsOutside_expireWrite⟩
  | syncTimerExpiry => exact ⟨_, rfl, s.keepsOutside_expireSync⟩
  | joinTimerExpiry => exact ⟨_, rfl, s.keepsOutside_expireJoin⟩
  | quietTimerExpiry => exact ⟨_, rfl, s.keepsOutside_expireQuiet⟩
  | sweepStep => exact ⟨_, rfl, s.keepsOutside_stepSweep⟩

/-- The deassertion moves a pin, and leaves the waiting commands (R92, log 1). -/
theorem State.deassertReset_pending (s : State) : s.deassertReset.pending = s.pending := by
  unfold State.deassertReset
  split <;> rfl

/-- Settles O2: the two reset commands leave the waiting commands, and every other command leaves the pins too. -/
theorem everyCommandCompletes : Obligations.EveryCommandCompletes := by
  intro c s
  by_cases hinput : ∃ straps, c = .resetInput straps
  · obtain ⟨straps, rfl⟩ := hinput
    exact ⟨_, rfl, rfl, fun hne => absurd rfl (hne straps)⟩
  by_cases hdeassertion : c = .resetDeassertion
  · subst hdeassertion
    exact ⟨_, rfl, s.deassertReset_pending, fun _ hne => absurd rfl hne⟩
  obtain ⟨t, hexec, keeps⟩ := s.keepsOutside_exec (not_exists.mp hinput) hdeassertion
  exact ⟨t, hexec, keeps.pending, fun _ _ => keeps.pins⟩

end Sys2Proof.Machine
end

section
/-! SUPPORT. What a lookup can answer (R4): one inversion for the demand lookup, with what stands in the set it names. -/

namespace Sys2Proof.Machine

/-- A lookup hits a VALID way, finds a FILLING way, or misses; while a sweep runs it misses (R4, R5). -/
theorem State.lookup_cases (line : LineAddr) (s : State) :
    (∃ (w : Fin 4) (data : Line), s.lookup line = .hit w data ∧ s.sweep.isRunning = false ∧
      (s.dir.get (setOf line)).ways[w] = .valid (tagOf line) data) ∨
    (∃ w ref : Fin 4, s.lookup line = .inFlight ref ∧ s.sweep.isRunning = false ∧
      (s.dir.get (setOf line)).ways[w] = .filling (tagOf line) ref) ∨
    (s.lookup line = .miss (s.offerVictim line) ∧ (s.sweep.isRunning = true ∨ s.dir.Misses line)) := by
  cases hsweep : s.sweep.isRunning with
  | true => exact .inr (.inr ⟨State.lookup_of_miss (.inl hsweep), .inl rfl⟩)
  | false =>
    cases hfound : s.dir.findWay line with
    | none =>
      have hmisses : s.dir.Misses line := CacheSet.find_eq_none.mp (Option.map_eq_none_iff.mp hfound)
      exact .inr (.inr ⟨State.lookup_of_miss (.inr hmisses), .inr hmisses⟩)
    | some found =>
      obtain ⟨w, x⟩ := found
      obtain ⟨hway, htag⟩ := Directory.way_of_findWay hfound
      cases x with
      | invalid => cases htag
      | filling t ref =>
        cases htag
        exact .inr (.inl ⟨w, ref, by simp [State.lookup, hsweep, hfound], rfl, hway⟩)
      | valid t data =>
        cases htag
        exact .inl ⟨w, data, by simp [State.lookup, hsweep, hfound], rfl, hway⟩

end Sys2Proof.Machine
end

section
/-! SUPPORT. The law of the directory's order, step by step: what every operation of the bridge that changes a set makes of its
recency order (R3). -/

namespace Sys2Proof.Machine

variable {s : State}

namespace State.OrderLaw

/-! ## Changes of the directory (R3) -/

theorem of_cleared (h : ∀ i, s.dir.get i = CacheSet.cleared) : s.OrderLaw := fun i => by
  rw [h]
  exact CacheSet.orderLaw_cleared

/-- One way of one set invalidated, or a fill that fails (R12, R13, R14). -/
theorem drop (h : s.OrderLaw) (i : SetIndex) (w : Fin 4) : (s.onSet i (CacheSet.drop w)).OrderLaw :=
  State.orderLaw_onSet h i (CacheSet.orderLaw_drop (h i) w)

theorem failFill (h : s.OrderLaw) : ∀ target : Option Target, (s.failFill target).OrderLaw
  | some x => h.drop x.set x.way
  | none => h

theorem installFill (h : s.OrderLaw) (buffer : Line) : ∀ target : Option Target, (s.installFill target buffer).OrderLaw
  | some x => State.orderLaw_onSet h x.set (CacheSet.orderLaw_install (h x.set) x.way buffer)
  | none => h

theorem claim (h : s.OrderLaw) (line : LineAddr) (ref : Fin 4) :
    ∀ victim : Option (Fin 4), (s.claim line ref victim).OrderLaw
  | some w => State.orderLaw_onSet h (setOf line) (CacheSet.orderLaw_claim (h (setOf line)) w (tagOf line) ref)
  | none => h

theorem invalidateValid (h : s.OrderLaw) (line : LineAddr) : (s.invalidateValid line).OrderLaw := by
  unfold State.invalidateValid
  split
  · exact h.drop _ _
  all_goals exact h

theorem dropLine (h : s.OrderLaw) (line : LineAddr) : (s.dropLine line).OrderLaw := by
  unfold State.dropLine
  split
  · exact h.drop _ _
  · exact State.orderLaw_of_dir (h.drop _ _) (State.releaseEntry_dir ..)
  all_goals exact h

theorem directorySeesWrite (h : s.OrderLaw) (cacheable : Bool) (line : LineAddr) (bytes : MaskedLine) :
    (s.directorySeesWrite cacheable line bytes).OrderLaw := by
  unfold State.directorySeesWrite
  split
  · exact h
  · split
    · split
      · exact State.orderLaw_onSet h _ (CacheSet.orderLaw_update (h _) _ bytes)
      · exact h
    · exact h.invalidateValid line

theorem startSweep (h : s.OrderLaw) : s.startSweep.OrderLaw := by
  unfold State.startSweep
  split
  · exact h
  · intro i
    have hset := CacheSet.orderLaw_releaseAll (h i) (Config.releaseRank s.freeCount i)
    rwa [← Directory.get_releaseAll] at hset

/-! ## The path of a read (R132 to R136) -/

theorem takeLine (h : s.OrderLaw) (tag : Fin 4) (line : LineAddr) (purpose : Purpose) (window : Fin 8) (waiter : Bool)
    (victim : Option (Fin 4)) : (s.takeLine tag line purpose window waiter victim).OrderLaw :=
  claim (s := s.takeEntry tag _) h line tag victim

theorem considerPrefetch (h : s.OrderLaw) (a : Access) : (s.considerPrefetch a).OrderLaw := by
  unfold State.considerPrefetch
  split
  · split
    · exact h.takeLine _ _ _ _ _ _
    · exact h
  · exact h

theorem readMiss (h : s.OrderLaw) (a : Access) (victim : Option (Fin 4)) : (s.readMiss a victim).OrderLaw := by
  unfold State.readMiss
  split
  · exact considerPrefetch (h.takeLine _ _ _ _ _ _) a
  · exact h

/-- A hit moves a VALID way to the front (R6). -/
theorem readLookup (h : s.OrderLaw) (counted : Bool) (a : Access) : (s.readLookup counted a).OrderLaw := by
  have hbump (n : CounterName) : (s.bumpIf counted n).OrderLaw := State.orderLaw_of_dir h (State.bumpIf_dir ..)
  unfold State.readLookup
  obtain ⟨w, data, hlookup, -, hway⟩ | ⟨w, ref, hlookup, -⟩ | ⟨hlookup, -⟩ := s.lookup_cases (lineOf a.remote)
  · rw [hlookup]
    refine State.orderLaw_onSet (hbump .hits) _ (CacheSet.orderLaw_toFront (hbump .hits _) ?_)
    rw [State.bumpIf_dir, hway]
    rfl
  · rw [hlookup]
    exact State.orderLaw_of_dir (hbump .misses) rfl
  · rw [hlookup]
    exact (hbump .misses).readMiss a _

theorem dispatchRead (h : s.OrderLaw) (counted : Bool) (a : Access) : (s.dispatchRead counted a).OrderLaw := by
  unfold State.dispatchRead
  split
  · exact h.readLookup counted a
  · exact State.orderLaw_of_dir h (State.readWord_dir ..)

theorem startRead (h : s.OrderLaw) (a : Access) : (s.startRead a).OrderLaw := by
  unfold State.startRead
  split
  · exact h
  · exact h.dispatchRead true a

theorem resumeFreeEntry (h : s.OrderLaw) : s.resumeFreeEntry.OrderLaw := by
  unfold State.resumeFreeEntry
  split
  · split
    · exact h.dispatchRead false _
    · exact h
  · exact h

theorem resumeQueueEmpty (h : s.OrderLaw) : s.resumeQueueEmpty.OrderLaw := by
  unfold State.resumeQueueEmpty
  split
  · split
    · exact h.dispatchRead true _
    · exact h
  · exact h

/-! ## The path of a write (R50) -/

theorem presentWrite (h : s.OrderLaw) (a : Access) : (s.presentWrite a).OrderLaw := by
  unfold State.presentWrite
  split
  · rename_i q _
    have hseen := directorySeesWrite (s := { s with wq := q }) h a.attrs.cacheable (lineOf a.remote) a.bytes
    dsimp only
    split <;> exact hseen
  · exact h

theorem resumeQueueSpace (h : s.OrderLaw) : s.resumeQueueSpace.OrderLaw := by
  unfold State.resumeQueueSpace
  split
  · split
    · exact h.presentWrite _
    · exact h
  · exact h

/-! ## Teardown and failure (R44, R98) -/

theorem endEntry (h : s.OrderLaw) (tag : Fin 4) : (s.endEntry tag).OrderLaw := by
  unfold State.endEntry
  split
  · exact h.failFill _
  · exact h

theorem endEntries (h : s.OrderLaw) (tags : List (Fin 4)) : (s.endEntries tags).OrderLaw := by
  induction tags generalizing s with
  | nil => exact h
  | cons tag tags ih => exact ih (h.endEntry tag)

theorem teardown (h : s.OrderLaw) : s.teardown.OrderLaw := by
  have hended : s.endBlocks.OrderLaw := by
    refine State.orderLaw_of_dir (h.endEntries (List.finRange 4)) ?_
    rw [State.endBlocks_eq]
  rw [State.teardown_eq_startSweep]
  exact hended.startSweep

theorem fail (h : s.OrderLaw) (cause : Cause) : (s.fail cause).OrderLaw := by
  refine State.orderLaw_of_dir (teardown (s := s.linkFailed cause) h) ?_
  simp only [State.fail, State.transmit_dir]
  split <;> simp

/-! ## Arriving frames -/

theorem completeRead (h : s.OrderLaw) (tag : Fin 4) (w : ReadWork) (returned : Line) :
    (s.completeRead tag w returned).OrderLaw := by
  unfold State.completeRead
  dsimp only
  refine resumeFreeEntry (State.orderLaw_of_dir ?_ (State.deliver_dir ..))
  exact installFill (s := s.setEntry tag _) h _ w.target?

theorem refuseRead (h : s.OrderLaw) (tag : Fin 4) (w : ReadWork) : (s.refuseRead tag w).OrderLaw := by
  have hfailed := h.failFill w.target?
  unfold State.refuseRead
  dsimp only
  split
  · split <;> exact resumeFreeEntry (State.orderLaw_of_dir hfailed (State.handRecord_dir ..))
  · exact resumeFreeEntry hfailed

theorem takeResponse (h : s.OrderLaw) (tag : Fin 4) (issue : Issue) (isLine : Bool) (status : Status)
    (returned : ReadWork → Line) : (s.takeResponse tag issue isLine status returned).OrderLaw := by
  unfold State.takeResponse
  split
  · exact h
  · split
    · exact State.orderLaw_of_dir (h.completeRead tag _ _) (State.transmit_dir _)
    · exact State.orderLaw_of_dir (h.refuseRead tag _) (State.transmit_dir _)

theorem refuseWrite (h : s.OrderLaw) (e : WriteEntry) : (s.refuseWrite e).OrderLaw :=
  invalidateValid (State.orderLaw_of_dir h (State.handRecord_dir ..)) e.block

theorem retired (h : s.OrderLaw) (k : Nat) (status : Status) : (s.retired k status).OrderLaw := by
  have hremoved : (s.removeEntries k).OrderLaw := State.orderLaw_of_dir h (State.removeEntries_dir ..)
  unfold State.retired
  extract_lets reported
  have hreported : reported.OrderLaw := by
    unfold reported
    split
    · split
      · exact hremoved.refuseWrite _
      · exact hremoved
    · exact hremoved
  split
  · exact State.orderLaw_of_dir hreported (State.endWriter_dir ..)
  · exact hreported

theorem takeWriteAck (h : s.OrderLaw) (seq : Seq) (status : Status) (total : BitVec 8) :
    (s.takeWriteAck seq status total).OrderLaw := by
  have hacked (k : Nat) : (s.ackEntries k status).OrderLaw := (h.retired k status).resumeQueueSpace.resumeQueueEmpty
  unfold State.takeWriteAck
  dsimp only
  split
  · exact State.orderLaw_of_dir (hacked _) ((State.transmit_dir _).trans (State.checkTotal_dir ..))
  · exact State.orderLaw_of_dir h (by simp)

theorem takeNotice (h : s.OrderLaw) (seq : Seq) (line : LineAddr) : (s.takeNotice seq line).OrderLaw := by
  unfold State.takeNotice
  dsimp only
  split
  · split
    · exact dropLine (s := { s with notices := { expected := s.notices.expected + 1#8 } }) h line
    · exact h
  · exact startSweep (State.orderLaw_of_dir h (State.handRecord_dir ..))

theorem takeTick (h : s.OrderLaw) (next : Seq) : (s.takeTick next).OrderLaw := by
  unfold State.takeTick
  dsimp only
  split
  · exact h
  · exact startSweep (State.orderLaw_of_dir h (State.handRecord_dir ..))

theorem takeFrame (h : s.OrderLaw) : ∀ f : InFrame, (s.takeFrame f).OrderLaw
  | .welcome _ => h
  | .lineData .. => h.takeResponse _ _ _ _ _
  | .wordData .. => h.takeResponse _ _ _ _ _
  | .writeAck seq status total => h.takeWriteAck seq status total
  | .syncAck _ => State.orderLaw_of_dir h (State.takeSyncAck_dir ..)
  | .notice seq line => h.takeNotice seq line
  | .tick next => h.takeTick next
  | .restart => h.fail .storeRestart

theorem receive (h : s.OrderLaw) (f : InFrame) : (s.receive f).OrderLaw := by
  have hquiet : s.restartQuiet.OrderLaw := h
  unfold State.receive
  split
  · exact h
  · split
    · exact h
    · exact h
    · cases f <;> exact h
    · exact hquiet.takeFrame f

theorem receiveBytes (h : s.OrderLaw) (bytes : List Byte) : (s.receiveBytes bytes).OrderLaw := by
  unfold State.receiveBytes
  split
  · exact h
  · split
    · exact h
    · exact h
    all_goals
      split
      · exact h
      · exact h.receive _

/-! ## Cycles on the local bus -/

theorem apertureRead (h : s.OrderLaw) (c : Cycle) : (s.apertureRead c).OrderLaw := by
  unfold State.apertureRead
  split
  · exact h
  · split
    · exact State.orderLaw_of_dir h (State.handRecord_dir ..)
    · exact State.orderLaw_of_dir (h.startRead _) (State.transmit_dir _)

theorem apertureWrite (h : s.OrderLaw) (c : Cycle) (data : BitVec 32) : (s.apertureWrite c data).OrderLaw := by
  unfold State.apertureWrite
  split
  · exact h
  · split
    · exact State.orderLaw_of_dir h (State.handRecord_dir ..)
    · exact State.orderLaw_of_dir (h.presentWrite _) (State.transmit_dir _)

theorem indexCycle (h : s.OrderLaw) (c : IndexCycle) : (s.indexCycle c).OrderLaw := by
  unfold State.indexCycle
  split
  · exact h
  · cases c <;> exact h

theorem wrongWidth (h : s.OrderLaw) (access : WrongWidth) : (s.wrongWidth access).OrderLaw := by
  unfold State.wrongWidth
  split
  · exact h
  · cases access <;> exact h

theorem dataRead (h : s.OrderLaw) : s.dataRead.OrderLaw := by
  unfold State.dataRead State.advanceIndex
  split
  · exact h
  · split <;> exact h

/-- A DATA write keeps the law when its effect on the register does. -/
theorem dataWrite (h : s.OrderLaw) {effect : State → State} (heffect : (effect s).OrderLaw) :
    (s.dataWrite effect).OrderLaw := by
  cases hheld : s.busHeld with
  | true => rwa [State.dataWrite_held effect hheld]
  | false =>
    rw [State.dataWrite_eq effect (State.busHeld_iff.mp hheld)]
    exact heffect

/-! ## The registers (R172, R178) -/

theorem joinCommand (h : s.OrderLaw) : s.joinCommand.OrderLaw := by
  unfold State.joinCommand
  split
  · exact h
  · exact h
  all_goals
    split
    · exact h
    · exact State.orderLaw_of_dir h (by simp)

theorem stopCommand (h : s.OrderLaw) : s.stopCommand.OrderLaw := by
  unfold State.stopCommand
  split
  · exact h.teardown
  · exact h.teardown
  · exact h.startSweep
  · exact h.startSweep

/-- A reset leaves every set as a sweep does (R24). -/
theorem resetWith (straps : BitVec 4) : (State.resetWith straps).OrderLaw :=
  of_cleared (State.resetWith_get straps)

theorem syncCommand (h : s.OrderLaw) : s.syncCommand.OrderLaw := by
  unfold State.syncCommand
  split
  · split
    · exact h
    · exact h
    all_goals exact State.orderLaw_of_dir h (by simp)
  all_goals exact h

theorem popCommand (h : s.OrderLaw) : s.popCommand.OrderLaw := by
  unfold State.popCommand
  split <;> exact h

theorem enableCommand (h : s.OrderLaw) : s.enableCommand.OrderLaw := by
  unfold State.enableCommand
  dsimp only
  split <;> exact h

theorem commandRegister (h : s.OrderLaw) (v : Half) : (s.commandRegister v).OrderLaw := by
  unfold State.commandRegister
  split
  case h_1 => exact h.joinCommand
  case h_2 => exact h.stopCommand
  case h_3 => exact resetWith s.link.boardNumber
  case h_4 => exact h.startSweep
  case h_5 => exact h.syncCommand
  case h_6 => exact h.popCommand
  case h_7 => exact h.dropLine _
  case h_8 => exact h.enableCommand
  all_goals exact h

theorem writeWindowField (h : s.OrderLaw) (field : WindowField) (v : Half) : (s.writeWindowField field v).OrderLaw := by
  unfold State.writeWindowField
  dsimp only
  split <;> exact h

theorem writeRegister (h : s.OrderLaw) (i : BitVec 7) (v : Half) : (s.writeRegister i v).OrderLaw := by
  unfold State.writeRegister
  split
  case h_1 => exact h.commandRegister v
  case h_16 | h_17 | h_18 | h_19 | h_20 | h_21 => exact h.writeWindowField _ v
  all_goals exact h

/-! ## The events of the part itself -/

theorem endTransmission (h : s.OrderLaw) : s.endTransmission.OrderLaw := by
  unfold State.endTransmission
  split
  · exact State.orderLaw_of_dir h (State.transmit_dir _)
  · exact h

theorem expireResponse (h : s.OrderLaw) (tag : Fin 4) : (s.expireResponse tag).OrderLaw := by
  unfold State.expireResponse
  split
  · split
    · split
      · exact State.orderLaw_of_dir h (State.transmit_dir _)
      · exact h.fail _
    · exact h
  · exact h

theorem expireWrite (h : s.OrderLaw) : s.expireWrite.OrderLaw := by
  unfold State.expireWrite
  split
  · split
    · exact State.orderLaw_of_dir h (State.transmit_dir _)
    · exact h.fail _
  · exact h

theorem expireSync (h : s.OrderLaw) : s.expireSync.OrderLaw := by
  unfold State.expireSync
  split
  · split
    · exact State.orderLaw_of_dir h (State.transmit_dir _)
    · exact h.fail _
  · exact h

theorem expireJoin (h : s.OrderLaw) : s.expireJoin.OrderLaw := by
  unfold State.expireJoin
  split
  · split
    · exact State.orderLaw_of_dir h (State.transmit_dir _)
    · exact State.orderLaw_of_dir h (State.handRecord_dir ..)
  · exact h

theorem expireQuiet (h : s.OrderLaw) : s.expireQuiet.OrderLaw := by
  unfold State.expireQuiet
  split
  · exact h.fail _
  · exact h

/-- A sweep step leaves its set cleared (R83). -/
theorem stepSweep (h : s.OrderLaw) : s.stepSweep.OrderLaw := by
  unfold State.stepSweep
  split
  · rename_i p _
    have hcleared : (s.onSet p fun _ => CacheSet.cleared).OrderLaw := State.orderLaw_onSet h p CacheSet.orderLaw_cleared
    dsimp only
    split <;> exact hcleared
  · exact h

theorem deassertReset (h : s.OrderLaw) : s.deassertReset.OrderLaw := by
  unfold State.deassertReset
  split <;> exact h

/-! ## Every command (R3) -/

/-- Every command's next state keeps the law. -/
theorem exec (h : s.OrderLaw) : ∀ i : Instr, ∃ t, exec i s = .next t ∧ t.OrderLaw
  | .resetInput straps => ⟨_, rfl, resetWith straps⟩
  | .resetDeassertion => ⟨_, rfl, h.deassertReset⟩
  | .apertureRead c => ⟨_, rfl, h.apertureRead c⟩
  | .apertureWrite c data => ⟨_, rfl, h.apertureWrite c data⟩
  | .readResumesFreeEntry => ⟨_, rfl, State.orderLaw_of_dir h.resumeFreeEntry (State.transmit_dir _)⟩
  | .writeResumesQueueSpace => ⟨_, rfl, State.orderLaw_of_dir h.resumeQueueSpace (State.transmit_dir _)⟩
  | .orderedReadDispatch => ⟨_, rfl, State.orderLaw_of_dir h.resumeQueueEmpty (State.transmit_dir _)⟩
  | .indexWrite c => ⟨_, rfl, h.indexCycle c⟩
  | .dataWrongWidth access => ⟨_, rfl, h.wrongWidth access⟩
  | .registerWrite v => ⟨_, rfl, h.dataWrite (h.writeRegister s.bus.index v)⟩
  | .windowFieldWrite field v => ⟨_, rfl, h.dataWrite (h.writeWindowField field v)⟩
  | .interruptFlagClear v => ⟨_, rfl, h.dataWrite (effect := State.writeFlags v) h⟩
  | .interruptEnableWrite v => ⟨_, rfl, h.dataWrite (effect := State.writeEnables v) h⟩
  | .join => ⟨_, rfl, h.dataWrite h.joinCommand⟩
  | .stop => ⟨_, rfl, h.dataWrite h.stopCommand⟩
  | .softReset => ⟨_, rfl, h.dataWrite (effect := State.softResetCommand) (resetWith s.link.boardNumber)⟩
  | .sweep => ⟨_, rfl, h.dataWrite (effect := State.sweepCommand) h.startSweep⟩
  | .sync => ⟨_, rfl, h.dataWrite h.syncCommand⟩
  | .popRecord => ⟨_, rfl, h.dataWrite h.popCommand⟩
  | .invalidateLine => ⟨_, rfl, h.dataWrite (effect := State.invalidateCommand) (h.dropLine _)⟩
  | .enableWindow => ⟨_, rfl, h.dataWrite h.enableCommand⟩
  | .disableWindow => ⟨_, rfl, h.dataWrite (effect := State.disableCommand) h⟩
  | .clearCounters => ⟨_, rfl, h.dataWrite (effect := State.clearCountersCommand) h⟩
  | .clearOverflow => ⟨_, rfl, h.dataWrite (effect := State.clearOverflowCommand) h⟩
  | .unknownCommand v => ⟨_, rfl, h.dataWrite (h.commandRegister v)⟩
  | .welcome first => ⟨_, rfl, h.receive (.welcome first)⟩
  | .lineData tag issue status data => ⟨_, rfl, h.receive (.lineData tag issue status data)⟩
  | .wordData tag issue status data => ⟨_, rfl, h.receive (.wordData tag issue status data)⟩
  | .writeAck seq status total => ⟨_, rfl, h.receive (.writeAck seq status total)⟩
  | .syncAck issue => ⟨_, rfl, h.receive (.syncAck issue)⟩
  | .notice seq line => ⟨_, rfl, h.receive (.notice seq line)⟩
  | .tick next => ⟨_, rfl, h.receive (.tick next)⟩
  | .restart => ⟨_, rfl, h.receive .restart⟩
  | .corruptFrame bytes => ⟨_, rfl, h.receiveBytes bytes⟩
  | .frameWhileDown bytes => ⟨_, rfl, h.receiveBytes bytes⟩
  | .transmissionEnd => ⟨_, rfl, h.endTransmission⟩
  | .responseTimerExpiry tag => ⟨_, rfl, h.expireResponse tag⟩
  | .writeTimerExpiry => ⟨_, rfl, h.expireWrite⟩
  | .syncTimerExpiry => ⟨_, rfl, h.expireSync⟩
  | .joinTimerExpiry => ⟨_, rfl, h.expireJoin⟩
  | .quietTimerExpiry => ⟨_, rfl, h.expireQuiet⟩
  | .sweepStep => ⟨_, rfl, h.stepSweep⟩
  | .dataRead => ⟨_, rfl, h.dataRead⟩

end State.OrderLaw

/-- Settles O9: an idle step changes nothing, and every command keeps the law set by set. -/
theorem orderLawKept : Obligations.OrderLawKept := by
  intro s t law hstep
  unfold step at hstep
  split at hstep
  · cases hstep
    exact law
  · rename_i c rest _
    have hrest : { s with pending := rest }.OrderLaw := law
    obtain ⟨u, hu, hlaw⟩ := hrest.exec c
    cases hu.symm.trans hstep
    exact hlaw

end Sys2Proof.Machine
end

section
/-! SUPPORT. The reset input's assertion (R91, R92, R144): every block takes its reset state. -/

namespace Sys2Proof.Machine

variable {s : State}

/-- The right column of R175, as the reset input leaves it. -/
theorem State.assertReset_cleared (straps : BitVec 4) (s : State) : (s.assertReset straps).Cleared := by
  constructor
  case sets => exact State.resetWith_get straps
  case entries =>
    intro tag
    have hentry : (s.assertReset straps).reads.entries[tag] = ReadEntry.reset := State.resetWith_entry straps tag
    rw [hentry]
    exact ⟨rfl, rfl, rfl, rfl⟩
  case interrupt => exact State.interruptOutput_of_clear rfl
  all_goals rfl

theorem State.resetWith_window (straps : BitVec 4) (i : Fin 8) : (State.resetWith straps).windows[i] = Window.reset :=
  Vector.getElem_replicate i.isLt

/-- Settles O4: the assertion clears the right column of R175, and every kept item of the left column takes its reset value. -/
theorem resetInputClearsEveryBlock : Obligations.ResetInputClearsEveryBlock := by
  intro straps s
  exact ⟨_, rfl, s.assertReset_cleared straps, rfl, rfl, rfl, rfl, rfl, rfl, rfl, State.resetWith_window straps, rfl, rfl, rfl,
    rfl⟩

end Sys2Proof.Machine
end

section
/-! SUPPORT. What the directory does of itself: INVALIDATE_LINE (R21), and a write as the write queue takes it (R15, R16, R86). -/

namespace Sys2Proof.Machine

variable {s : State}

/-! ## INVALIDATE_LINE (R21) -/

theorem exec_invalidateLine (hcan : s.CanCycle) :
    exec .invalidateLine s =
      .next { s.dropLine (lineOf s.cmd.remoteArg) with
        cmd := { s.cmd with status := .done }, bus := s.bus.afterDataWrite } := by
  refine congrArg Host.Outcome.next ?_
  rw [State.dataWrite_eq_of_bus _ hcan (by simp [State.invalidateCommand]), State.invalidateCommand, State.setStatus,
    State.dropLine_cmd]

/-- Settles O32: by what stands in the line's set, its one way is dropped, with its entry's target, or nothing is. -/
theorem invalidateLineActsOnItsWay : Obligations.InvalidateLineActsOnItsWay := by
  intro s a hcan unique ha
  have hline : lineOf s.cmd.remoteArg = a := ha.symm
  rw [exec_invalidateLine hcan, hline]
  refine ⟨fun hmisses => ?_, fun w data hvalid => ?_, fun w ref hfilling => ?_⟩
  · rw [State.dropLine_of_misses hmisses]
  · rw [State.dropLine_of_valid unique hvalid]
  · rw [State.dropLine_of_filling unique hfilling]

/-! ## A write that the queue takes (R15, R16, R86) -/

theorem State.directorySeesWrite_sweeping (cacheable : Bool) (line : LineAddr) (bytes : MaskedLine)
    (hsweep : s.sweep.isRunning = true) : s.directorySeesWrite cacheable line bytes = s :=
  if_pos hsweep

/-- With no sweep, the window's CACHEABLE decides between the byte update and the invalidation (R15, R16). -/
theorem State.directorySeesWrite_at_rest (cacheable : Bool) (line : LineAddr) (bytes : MaskedLine)
    (hsweep : s.sweep.isRunning = false) :
    s.directorySeesWrite cacheable line bytes =
      if cacheable then
        match s.dir.find line with
        | some w => s.onSet (setOf line) (CacheSet.update w bytes)
        | none => s
      else s.invalidateValid line := by
  rw [State.directorySeesWrite, hsweep]
  rfl

theorem CacheSet.update_of_valid {c : CacheSet} {w : Fin 4} {tag : Tag} {data : Line} (bytes : MaskedLine)
    (h : c.ways[w] = .valid tag data) : c.update w bytes = c.setWay w (.valid tag (overlay data bytes)) := by
  simp only [CacheSet.update, h]

theorem CacheSet.update_of_filling {c : CacheSet} {w ref : Fin 4} {tag : Tag} (bytes : MaskedLine)
    (h : c.ways[w] = .filling tag ref) : c.update w bytes = c := by
  simp only [CacheSet.update, h]

theorem State.onSet_of_eq {i : SetIndex} {f : CacheSet → CacheSet} (h : f (s.dir.get i) = s.dir.get i) : s.onSet i f = s := by
  rw [State.onSet, h, Directory.put_get]

theorem State.directorySeesWrite_of_misses (cacheable : Bool) {line : LineAddr} (bytes : MaskedLine)
    (h : s.dir.Misses line) : s.directorySeesWrite cacheable line bytes = s := by
  simp [State.directorySeesWrite, State.invalidateValid, Directory.find_of_misses h, Directory.findWay_of_misses h]

/-- A FILLING way for the line is left as it is: its fill will carry the written bytes (R15, R16, R35). -/
theorem State.directorySeesWrite_of_filling (cacheable : Bool) {line : LineAddr} {w ref : Fin 4} (bytes : MaskedLine)
    (unique : s.UniqueLaw) (h : (s.dir.get (setOf line)).ways[w] = .filling (tagOf line) ref) :
    s.directorySeesWrite cacheable line bytes = s := by
  have hupdate : s.onSet (setOf line) (CacheSet.update w bytes) = s := State.onSet_of_eq (CacheSet.update_of_filling bytes h)
  have hfind : s.dir.find line = some w := State.find_of_tag unique (by rw [h]; rfl)
  simp [State.directorySeesWrite, State.invalidateValid, hfind, State.findWay_of_filling unique h, hupdate]

/-- Settles O59: a sweep, a miss and a FILLING way leave the directory; a VALID way is updated or dropped by CACHEABLE. -/
theorem directorySeesTakenWrites : Obligations.DirectorySeesTakenWrites := by
  intro cacheable a bytes s unique
  refine ⟨?_, fun w data hsweep hvalid => ⟨?_, ?_⟩⟩
  · rintro (hsweep | hmisses | ⟨w, ref, hfilling⟩)
    · exact State.directorySeesWrite_sweeping cacheable a bytes hsweep
    · exact State.directorySeesWrite_of_misses cacheable bytes hmisses
    · exact State.directorySeesWrite_of_filling cacheable bytes unique hfilling
  · rintro rfl
    rw [State.directorySeesWrite_at_rest false a bytes hsweep, if_neg Bool.false_ne_true, State.invalidateValid,
      State.findWay_of_valid unique hvalid]
    rfl
  · rintro rfl
    refine ⟨overlay data bytes, fun k h => getElem_overlay data bytes k h, ?_⟩
    have hfind : s.dir.find a = some w := State.find_of_tag unique (by rw [hvalid]; rfl)
    rw [State.directorySeesWrite_at_rest true a bytes hsweep, if_pos rfl, hfind]
    simp only [State.onSet, CacheSet.update_of_valid bytes hvalid]
    rfl

end Sys2Proof.Machine
end

section
/-! SUPPORT. A cacheable read presented in the aperture: its hit, its join, its miss with the prefetch considered (R31), and the
wait of a miss that finds no FREE entry (R28). -/

namespace Sys2Proof.Machine

variable {s : State}

/-! ## A hit and a join (R133, R134) -/

/-- Settles O55: the lookup finds the line's one way, and neither of its outcomes offers a frame. -/
theorem cacheableReadHitsOrJoins : Obligations.CacheableReadHitsOrJoins := by
  rintro c offset size i a w s hcan unique law hc hpasses rfl hcache hempty hsweep
  rw [exec_apertureRead_of_passes hcan hc hpasses, State.startRead_dispatches hempty]
  refine ⟨fun data hway => ?_, fun ref k p x hway hk hreq => ?_⟩
  · rw [State.dispatchRead_hit true hcache hsweep unique hway, State.bumpIf_hits, State.transmit_of_same law]
    all_goals rfl
  · rw [State.dispatchRead_join true hcache hsweep unique hway hk hreq, State.bumpIf_misses, State.transmit_of_same law]
    all_goals rfl

/-! ## Whether a prefetch is taken (R31) -/

/-- Two of the four entries are FREE exactly when some two of them are. -/
theorem two_le_length_filter : ∀ free : Fin 4 → Bool,
    2 ≤ ((List.finRange 4).filter free).length ↔ ∃ u v : Fin 4, u < v ∧ free u = true ∧ free v = true := by
  decide

theorem State.two_le_freeEntries : 2 ≤ s.freeEntries ↔
    ∃ u v : Fin 4, u < v ∧ (s.reads.entries[u]).work = none ∧ (s.reads.entries[v]).work = none := by
  simp only [State.freeEntries, two_le_length_filter, Option.isNone_iff_eq_none]

/-- R31's conditions, each as the rule words it. -/
theorem State.wantsPrefetch_iff (a : Access) : s.wantsPrefetch a = true ↔
    a.attrs.prefetch = true ∧ ((lineOf a.remote).toNat + 1) * 32 < a.limit ∧ s.dir.Misses (lineOf a.remote + 1#23) ∧
      s.sweep.isRunning = false ∧ s.dir.hold = false ∧
      ∃ u v : Fin 4, u < v ∧ (s.reads.entries[u]).work = none ∧ (s.reads.entries[v]).work = none := by
  simp only [State.wantsPrefetch, Bool.and_eq_true, Bool.not_eq_true', decide_eq_true_eq, Directory.probe_eq_false,
    State.two_le_freeEntries, and_assoc]

theorem State.considerPrefetch_unwanted {a : Access} (h : ¬ s.wantsPrefetch a = true) : s.considerPrefetch a = s :=
  if_neg h

/-- A prefetch that is wanted takes the lowest FREE entry, with a victim of its own (R32). -/
theorem State.considerPrefetch_wanted {a : Access} {tag : Fin 4} (h : s.wantsPrefetch a = true)
    (hlowest : s.reads.LowestFree tag) :
    s.considerPrefetch a = s.withLineTaken tag (lineOf a.remote + 1#23) .prefetch a.window false := by
  rw [State.considerPrefetch, if_pos h, State.freeEntry_of_lowest hlowest, ← State.takeLine_offered]

/-! ## A miss (R135) -/

/-- A miss that finds no FREE entry waits on one (R28). -/
theorem State.dispatchRead_missWaits {a : Access} (counted : Bool) (hcache : a.attrs.cacheable = true)
    (hfull : s.freeEntry = none) (hmiss : s.sweep.isRunning = true ∨ s.dir.Misses (lineOf a.remote)) :
    s.dispatchRead counted a = (s.bumpIf counted .misses).setAccess { a with wait := .freeEntry } := by
  have hfull' : (s.bumpIf counted .misses).freeEntry = none := by
    rw [← hfull]
    simp [State.freeEntry]
  rw [State.dispatchRead, if_pos hcache, State.readLookup, State.lookup_of_miss hmiss]
  simp only [State.readMiss, hfull']

/-- Settles O56: the lookup misses, so a FREE entry or its absence decides; and R31's conditions decide over the prefetch. -/
theorem cacheableReadMissTakesAFill : Obligations.CacheableReadMissTakesAFill := by
  refine ⟨?_, fun a s => ⟨fun hunwanted => ?_, ?_⟩⟩
  · rintro c offset size i a s m hcan law hc hpasses rfl hcache hempty hmiss rfl
    rw [exec_apertureRead_of_passes hcan hc hpasses, State.startRead_dispatches hempty]
    refine ⟨fun tag hlowest => ?_, fun hfull => ?_⟩
    · rw [State.dispatchRead_miss true hcache (State.freeEntry_of_lowest hlowest) hmiss, State.bumpIf_misses,
        State.setAccess, State.considerPrefetch_bus]
      rfl
    · rw [State.dispatchRead_missWaits true hcache (State.freeEntry_none hfull) hmiss, State.bumpIf_misses,
        State.transmit_of_same law]
      all_goals rfl
  · exact State.considerPrefetch_unwanted (mt (State.wantsPrefetch_iff a).mp hunwanted)
  · intro hprefetch hlimit hmisses hsweep hhold u v huv hlowest hfree
    exact State.considerPrefetch_wanted
      ((State.wantsPrefetch_iff a).mpr ⟨hprefetch, hlimit, hmisses, hsweep, hhold, u, v, huv, hlowest.1, hfree⟩) hlowest

end Sys2Proof.Machine
end

section
/-! SUPPORT. Operand forms bit by bit (R1, R127): the parts of a remote address as numbers, the lanes of a value read and of a
value written, and the mask of a WRITE frame (R56). -/

namespace Sys2Proof.Machine

/-! ## The parts of a remote address (R1) -/

theorem byteOffset_toNat (a : RemoteAddr) : (byteOffset a).toNat = a.toNat % 0x20 := by
  simp [byteOffset]

theorem lineOf_toNat (a : RemoteAddr) : (lineOf a).toNat = a.toNat / 0x20 := by
  have hbound := a.isLt
  simp only [lineOf, BitVec.extractLsb'_toNat, Nat.shiftRight_eq_div_pow]
  omega

theorem setOf_toNat (l : LineAddr) : (setOf l).toNat = l.toNat % 0x100 := by
  simp [setOf]

theorem tagOf_toNat (l : LineAddr) : (tagOf l).toNat = l.toNat / 0x100 := by
  have hbound := l.isLt
  simp only [tagOf, BitVec.extractLsb'_toNat, Nat.shiftRight_eq_div_pow]
  omega

theorem baseOf_toNat (l : LineAddr) : (baseOf l).toNat = l.toNat * 0x20 := by
  rw [baseOf, Frames.toNat_append_eq]
  simp

/-! ## A value's lanes (R127) -/

/-- The byte at an offset that a run of bytes from another reaches without passing the block's end. -/
theorem byteAt_add {buf : Line} {offset : BitVec 5} {i : Nat} (h : offset.toNat + i < 32) :
    byteAt buf (offset + BitVec.ofNat 5 i) = buf[offset.toNat + i] := by
  have hsum : (offset + BitVec.ofNat 5 i).toNat = offset.toNat + i := by
    rw [BitVec.toNat_add, BitVec.toNat_ofNat]
    omega
  simp only [byteAt, hsum]

/-- The byte above the lowest of a value whose lowest byte is apart. -/
theorem extractLsb'_append_byte {n : Nat} (x : BitVec n) (y : Byte) (i : Nat) :
    (x ++ y).extractLsb' (8 * (i + 1)) 8 = x.extractLsb' (8 * i) 8 := by
  rw [BitVec.extractLsb'_append_eq_of_le (by omega)]
  congr 1

/-- Byte i of a value read is the byte i places above its offset (R127). -/
theorem extractLsb'_valueAt (buf : Line) (offset : BitVec 5) {size : Size} {i : Nat} (hi : i < sizeBytes size) :
    (valueAt buf offset size).extractLsb' (8 * i) 8 = byteAt buf (offset + BitVec.ofNat 5 i) := by
  have hlowest {n : Nat} (x : BitVec n) (y : Byte) : (x ++ y).extractLsb' (8 * 0) 8 = y :=
    BitVec.extractLsb'_append_eq_right
  have hfirst : offset + BitVec.ofNat 5 0 = offset := BitVec.add_zero offset
  match size, i, hi with
  | .one, 0, _ => exact (hlowest _ _).trans (by rw [hfirst])
  | .two, 0, _ => exact (hlowest _ _).trans (by rw [hfirst])
  | .two, 1, _ => exact (extractLsb'_append_byte _ _ 0).trans (hlowest _ _)
  | .four, 0, _ => exact (hlowest _ _).trans (by rw [hfirst])
  | .four, 1, _ => exact (extractLsb'_append_byte _ _ 0).trans (hlowest _ _)
  | .four, 2, _ => exact (extractLsb'_append_byte _ _ 1).trans ((extractLsb'_append_byte _ _ 0).trans (hlowest _ _))
  | .four, 3, _ =>
    exact (extractLsb'_append_byte _ _ 2).trans ((extractLsb'_append_byte _ _ 1).trans
      ((extractLsb'_append_byte _ _ 0).trans (BitVec.extractLsb'_eq_self ..)))

theorem toNat_ofNat_sub {offset : BitVec 5} {k : Nat} (hk : k < 32) :
    (BitVec.ofNat 5 k - offset).toNat = if offset.toNat ≤ k then k - offset.toNat else k + 32 - offset.toNat := by
  have hbound := offset.isLt
  rw [BitVec.toNat_sub, BitVec.toNat_ofNat]
  split <;> omega

/-- A write covers the bytes of its size from its offset up, byte i of the value at the i-th (R127). -/
theorem getElem_placeBytes {offset : BitVec 5} {size : Size} (data : BitVec 32) {k : Nat} (hk : k < 32)
    (hfits : offset.toNat + sizeBytes size ≤ 32) :
    (placeBytes offset size data)[k] =
      if offset.toNat ≤ k ∧ k < offset.toNat + sizeBytes size then
        some (data.extractLsb' (8 * (k - offset.toNat)) 8)
      else none := by
  have hlane := toNat_ofNat_sub (offset := offset) hk
  simp only [placeBytes, Vec.getElem_tabulate, hlane]
  by_cases habove : offset.toNat ≤ k
  · simp only [habove, true_and, if_true]
    exact if_congr (by omega) rfl rfl
  · rw [if_neg habove, if_neg (by omega), if_neg (by omega)]

/-! ## The mask of a WRITE frame (R56) -/

/-- Bit k of the number that a run of masked bytes makes tells whether byte k is carried. -/
theorem testBit_maskNumber : ∀ (bytes : List (Option Byte)) (k : Nat),
    Nat.testBit (bytes.foldr (fun b m => 2 * m + if b.isSome then 1 else 0) 0) k = (bytes[k]?.getD none).isSome
  | [], k => by simp
  | b :: bytes, 0 => by cases b <;> simp [Nat.testBit_zero]
  | b :: bytes, k + 1 => by
    rw [List.foldr_cons, List.getElem?_cons_succ, ← testBit_maskNumber bytes k, Nat.testBit_succ]
    congr 1
    cases b with
    | none => simp
    | some byte =>
      simp
      omega

theorem getLsbD_maskOf (bytes : MaskedLine) {k : Nat} (hk : k < 32) : (maskOf bytes).getLsbD k = (bytes[k]).isSome := by
  rw [maskOf, BitVec.getLsbD_ofNat, testBit_maskNumber]
  simp [hk]

/-- Settles O16: each clause is one operand form read at one place. -/
theorem lanesFollowOffsetsAndAddressPartsTheirBits : Obligations.LanesFollowOffsetsAndAddressPartsTheirBits := by
  refine ⟨fun a => ⟨byteOffset_toNat a, lineOf_toNat a, ?_, ?_⟩, baseOf_toNat, rfl, rfl, rfl, rfl, rfl, rfl,
    fun buf offset size i h hi _ => ?_, fun offset size data k h hfits => getElem_placeBytes data h hfits,
    fun bytes k h => ⟨getLsbD_maskOf bytes h, getElem_dataOf bytes k h⟩, fun older newer k h => ?_⟩
  · rw [setOf_toNat, lineOf_toNat]
  · rw [tagOf_toNat, lineOf_toNat, Nat.div_div_eq_div_mul]
  · rw [extractLsb'_valueAt buf offset hi, byteAt_add h]
  · rw [getElem_mergeBytes]
    cases newer[k] <;> rfl

end Sys2Proof.Machine
end

section
/-! SUPPORT. The inspection registers (R178): the selected way (R22), the selected read entry (R45), the write entry at the selected
position (R69) and the head record (R160), each register's fields at their places. -/

namespace Sys2Proof.Machine

variable {s : State}

/-! ## Halves of an address (R178) -/

theorem remoteLow_eq (a : RemoteAddr) : remoteLow a = BitVec.ofNat 16 a.toNat :=
  Frames.extractLsb'_zero_eq_ofNat a 16

theorem remoteHigh_eq (a : RemoteAddr) : remoteHigh a = BitVec.ofNat 16 (a.toNat / 0x10000) :=
  Frames.zeros_append_extractLsb' 4 16 a

theorem orZero_none {α : Type} (show' : α → Half) : orZero none show' = 0#16 := rfl

theorem orZero_some {α : Type} (a : α) (show' : α → Half) : orZero (some a) show' = show' a := rfl

theorem orZero_remoteLow (a : Option RemoteAddr) : orZero a remoteLow = remoteLow (a.getD 0#28) := by
  cases a <;> rfl

theorem orZero_remoteHigh (a : Option RemoteAddr) : orZero a remoteHigh = remoteHigh (a.getD 0#28) := by
  cases a <;> rfl

theorem orZero_offsetLow (o : Option Offset) : orZero o offsetLow = offsetLow (o.getD 0#26) := by
  cases o <;> rfl

theorem orZero_offsetHigh (o : Option Offset) : orZero o offsetHigh = offsetHigh (o.getD 0#26) := by
  cases o <;> rfl

/-! ## The selected way (R22) -/

/-- Index 2FH, of a way that has a tag. -/
theorem tagRegister_eq (tag : Tag) : field 0 tag.toNat = 0#1 ++ tag :=
  field_zero_eq (Frames.toNat_zeros_append 1 tag)

/-- Under the order law the recency position is where the way stands, one of four (R3). -/
theorem CacheSet.recency_of_orderLaw {c : CacheSet} (h : c.OrderLaw) (w : Fin 4) :
    c.recency w < 4 ∧ c.order[c.recency w]? = some w := by
  have hlength : c.order.length = 4 := h.1.length_eq
  have hfound : c.recency w < c.order.length := List.findIdx_lt_length_of_exists ⟨w, c.mem_order h w, by simp⟩
  refine ⟨hlength ▸ hfound, List.getElem?_eq_some_iff.mpr ⟨hfound, ?_⟩⟩
  exact beq_iff_eq.mp (List.findIdx_getElem (w := hfound))

/-- Index 2EH, of a way that is not FILLING. -/
theorem wayRegister_noRef (p code : BitVec 2) : field 0 code.toNat ||| field 4 p.toNat = 0#10 ++ p ++ 0#2 ++ code := by
  rw [field_or_field _ (by omega)]
  apply field_zero_eq
  simp only [Frames.toNat_append_eq, BitVec.toNat_ofNat]
  omega

/-- Index 2EH, of a FILLING way. -/
theorem wayRegister_ref (p code : BitVec 2) (ref : Fin 4) :
    field 0 code.toNat ||| field 4 p.toNat ||| field 8 ref.val =
      0#6 ++ BitVec.ofFin (w := 2) ref ++ 0#2 ++ p ++ 0#2 ++ code := by
  rw [field_or_field _ (by omega), field_or_field _ (by omega)]
  apply field_zero_eq
  simp only [Frames.toNat_append_eq, BitVec.toNat_ofNat, BitVec.toNat_ofFin]
  omega

/-- Indices 30H to 3FH show the sixteen halves of the data. -/
theorem State.readRegister_data {j : Nat} (h : j < 16) :
    s.readRegister (BitVec.ofNat 7 (0x30 + j)) = s.dataHalf (BitVec.ofNat 4 j) := by
  interval_cases j <;> rfl

theorem byteAt_half (data : Line) {j : Nat} (b : BitVec 1) (h : 2 * j + b.toNat < 32) :
    byteAt data (BitVec.ofNat 4 j ++ b) = data[2 * j + b.toNat] := by
  have hplace : (BitVec.ofNat 4 j ++ b).toNat = 2 * j + b.toNat := by
    rw [Frames.toNat_append_eq, BitVec.toNat_ofNat]
    omega
  simp only [byteAt, hplace]

theorem State.dataHalf_valid {tag : Tag} {data : Line} (hway : s.inspectedWay = .valid tag data) {j : Nat}
    (h : 2 * j + 1 < 32) : s.dataHalf (BitVec.ofNat 4 j) = data[2 * j + 1] ++ data[2 * j] := by
  simp only [State.dataHalf, hway]
  exact congrArg₂ (· ++ ·) (byteAt_half data 1#1 h) (byteAt_half data 0#1 (by omega))

/-! ## The selected read entry (R45) -/

/-- Index 25H, of a FREE entry. -/
theorem readItems_free {e : ReadEntry} (h : e.work = none) : readItems e = 0#3 ++ e.retries ++ e.issue ++ 0#8 := by
  have hfields : readItems e = field 0 0 ||| field 8 e.issue.toNat ||| field 10 e.retries.toNat := by
    rw [readItems, h, orZero_none, BitVec.or_zero, show field 0 0 = 0#16 from rfl, BitVec.zero_or]
  rw [hfields, field_or_field _ (by omega), field_or_field _ (by omega)]
  apply field_zero_eq
  simp only [Frames.toNat_append_eq, BitVec.toNat_ofNat]
  omega

/-- Index 25H, of a LINE entry. -/
theorem readItems_line {e : ReadEntry} {k : ReadWork} {a : LineAddr} {p : Purpose} {x : Option Target}
    (h : e.work = some k) (hreq : k.request = .line a p x) :
    readItems e = 0#3 ++ e.retries ++ e.issue ++ BitVec.ofFin (w := 3) k.window ++ 0#1 ++
      BitVec.ofBool (k.phase = .awaiting) ++ BitVec.ofBool (p = .prefetch) ++ 0#1 ++ 1#1 := by
  have hfields : readItems e = flag 0 true ||| flag 2 (p = .prefetch) ||| flag 3 (k.phase = .awaiting) |||
      field 5 k.window.val ||| field 8 e.issue.toNat ||| field 10 e.retries.toNat := by
    simp only [readItems, h, orZero_some, hreq]
    simp only [show (p == Purpose.prefetch) = decide (p = .prefetch) from rfl,
      show (k.phase == Phase.awaiting) = decide (k.phase = .awaiting) from rfl]
    ac_rfl
  have hprefetch := Bool.toNat_le (p = .prefetch)
  have hawaiting := Bool.toNat_le (k.phase = .awaiting)
  simp only [hfields, flag_eq_field, Bool.toNat_true]
  rw [field_or_field _ (by omega), field_or_field _ (by omega), field_or_field _ (by omega), field_or_field _ (by omega),
    field_or_field _ (by omega)]
  apply field_zero_eq
  simp only [Frames.toNat_append_eq, BitVec.toNat_ofNat, BitVec.toNat_ofFin, BitVec.toNat_ofBool]
  omega

/-- Index 25H, of a WORD entry. -/
theorem readItems_word {e : ReadEntry} {k : ReadWork} {a : RemoteAddr} {size : Size} (h : e.work = some k)
    (hreq : k.request = .word a size) :
    readItems e = BitVec.ofNat 3 (sizeBytes size) ++ e.retries ++ e.issue ++ BitVec.ofFin (w := 3) k.window ++ 0#1 ++
      BitVec.ofBool (k.phase = .awaiting) ++ 0#1 ++ 1#1 ++ 1#1 := by
  have hfields : readItems e = flag 0 true ||| flag 1 true ||| flag 3 (k.phase = .awaiting) ||| field 5 k.window.val |||
      field 8 e.issue.toNat ||| field 10 e.retries.toNat ||| field 13 (sizeBytes size) := by
    simp only [readItems, h, orZero_some, hreq]
    simp only [show (k.phase == Phase.awaiting) = decide (k.phase = .awaiting) from rfl]
    ac_rfl
  have hawaiting := Bool.toNat_le (k.phase = .awaiting)
  have hsize : sizeBytes size ≤ 4 := by cases size <;> decide
  simp only [hfields, flag_eq_field, Bool.toNat_true]
  rw [field_or_field _ (by omega), field_or_field _ (by omega), field_or_field _ (by omega), field_or_field _ (by omega),
    field_or_field _ (by omega), field_or_field _ (by omega)]
  apply field_zero_eq
  simp only [Frames.toNat_append_eq, BitVec.toNat_ofNat, BitVec.toNat_ofFin, BitVec.toNat_ofBool]
  omega

/-- Index 28H, of a target way. -/
theorem targetRegister_eq (x : Target) :
    field 0 x.set.toNat ||| field 8 x.way.val ||| flag 15 true = 1#1 ++ 0#5 ++ BitVec.ofFin (w := 2) x.way ++ x.set := by
  rw [flag_eq_field, Bool.toNat_true, field_or_field _ (by omega), field_or_field _ (by omega)]
  apply field_zero_eq
  simp only [Frames.toNat_append_eq, BitVec.toNat_ofNat, BitVec.toNat_ofFin]
  omega

theorem readTarget_line {e : ReadEntry} {k : ReadWork} {a : LineAddr} {p : Purpose} {x : Option Target}
    (h : e.work = some k) (hreq : k.request = .line a p x) :
    readTarget e = orZero x fun y => 1#1 ++ 0#5 ++ BitVec.ofFin (w := 2) y.way ++ y.set := by
  have htarget : e.work.bind ReadWork.target? = x := by rw [h, Option.bind_some, ReadWork.target?, hreq]
  simp only [readTarget, htarget, targetRegister_eq]

theorem readTarget_word {e : ReadEntry} {k : ReadWork} {a : RemoteAddr} {size : Size} (h : e.work = some k)
    (hreq : k.request = .word a size) : readTarget e = 0#16 := by
  have htarget : e.work.bind ReadWork.target? = none := by rw [h, Option.bind_some, ReadWork.target?, hreq]
  rw [readTarget, htarget]
  rfl

theorem readTarget_free {e : ReadEntry} (h : e.work = none) : readTarget e = 0#16 := by
  rw [readTarget, h]
  rfl

theorem readAddr_free {e : ReadEntry} (h : e.work = none) : readAddr e = 0#28 := by
  rw [readAddr, h]

theorem readAddr_line {e : ReadEntry} {k : ReadWork} {a : LineAddr} {p : Purpose} {x : Option Target}
    (h : e.work = some k) (hreq : k.request = .line a p x) : (readAddr e).toNat = a.toNat * 32 := by
  simp only [readAddr, h, hreq, Request.recordAddr, baseOf_toNat]

theorem readAddr_word {e : ReadEntry} {k : ReadWork} {a : RemoteAddr} {size : Size} (h : e.work = some k)
    (hreq : k.request = .word a size) : readAddr e = a := by
  simp only [readAddr, h, hreq, Request.recordAddr]

/-! ## The write entry at the selected position (R69) -/

/-- Index 1CH. -/
theorem writeItems_eq (e : WriteEntry) :
    writeItems e = e.seq?.getD 0#8 ++ BitVec.ofFin (w := 3) e.window ++ BitVec.ofBool e.closed ++ BitVec.ofBool e.posted ++
      (BitVec.ofBool e.isReplay ++ BitVec.ofBool e.isSent) ++ 1#1 := by
  have hsent := Bool.toNat_le e.isSent
  have hreplay := Bool.toNat_le e.isReplay
  have hposted := Bool.toNat_le e.posted
  have hclosed := Bool.toNat_le e.closed
  have hseq : e.seq?.elim 0 BitVec.toNat = (e.seq?.getD 0#8).toNat := by cases e.seq? <;> rfl
  simp only [writeItems, flag_eq_field, Bool.toNat_true, orZero_field, hseq]
  rw [field_or_field _ (by omega), field_or_field _ (by omega), field_or_field _ (by omega), field_or_field _ (by omega),
    field_or_field _ (by omega), field_or_field _ (by omega)]
  apply field_zero_eq
  simp only [Frames.toNat_append_eq, BitVec.toNat_ofNat, BitVec.toNat_ofFin, BitVec.toNat_ofBool]
  omega

/-- Indices 1FH and 20H: the mask's two halves. -/
theorem maskHalf_getLsbD (bytes : MaskedLine) {low k : Nat} (hk : k < 16) (h : low + k < 32) :
    ((maskOf bytes).extractLsb' low 16).getLsbD k = (bytes[low + k]).isSome := by
  rw [BitVec.getLsbD_extractLsb', getLsbD_maskOf bytes h]
  simp [hk]

theorem State.readRegister_noWrite (h : s.selectedWrite = none) {k : Nat} (hlow : 0x1C ≤ k) (hhigh : k ≤ 0x20) :
    s.readRegister (BitVec.ofNat 7 k) = 0#16 := by
  have hitem (show' : WriteEntry → Half) : orZero s.selectedWrite show' = 0#16 := by rw [h, orZero_none]
  interval_cases k <;> exact hitem _

/-! ## The head record (R160) -/

theorem State.readRegister_noRecord (h : s.headRecord = none) {k : Nat} (hlow : 0x41 ≤ k) (hhigh : k ≤ 0x48) :
    s.readRegister (BitVec.ofNat 7 k) = 0#16 := by
  have hitem (show' : ErrorRecord → Half) : orZero s.headRecord show' = 0#16 := by rw [h, orZero_none]
  have hpart {α : Type} (part : ErrorRecord → Option α) (show' : α → Half) :
      orZero (s.headRecord.bind part) show' = 0#16 := by rw [h, Option.bind_none, orZero_none]
  have hheld : k = 0x41 ∨ k = 0x42 ∨ k = 0x47 ∨ k = 0x48 ∨ (0x43 ≤ k ∧ k ≤ 0x46) := by omega
  rcases hheld with rfl | rfl | rfl | rfl | ⟨hlow, hhigh⟩
  · exact hitem _
  · exact hitem _
  · exact hitem _
  · exact hitem _
  · interval_cases k <;> exact hpart _ _

/-- Index 41H, of a record of a kind with this number. -/
theorem kindRegister_eq {kind : BitVec 4} {n : Nat} (count : BitVec 8) (h : kind.toNat = n) :
    field 0 n ||| field 8 count.toNat = count ++ 0#4 ++ kind := by
  rw [← h, field_or_field _ (by omega)]
  apply field_zero_eq
  simp only [Frames.toNat_append_eq, BitVec.toNat_ofNat]
  omega

/-- Index 42H: which items the record's kind carries, by bit, and its window's number (R156, R160). -/
theorem recordFlags_eq {r : RecordBody} {v : Half}
    (h : v.toNat = r.window?.isSome.toNat + 2 * r.offset?.isSome.toNat + 4 * r.remote?.isSome.toNat +
      8 * r.pair?.isSome.toNat + 0x100 * r.window?.elim 0 Fin.val) : recordFlags r = v := by
  have hwindow := Bool.toNat_le r.window?.isSome
  have hoffset := Bool.toNat_le r.offset?.isSome
  have hremote := Bool.toNat_le r.remote?.isSome
  have hpair := Bool.toNat_le r.pair?.isSome
  simp only [recordFlags, flag_eq_field, orZero_field]
  rw [field_or_field _ (by omega), field_or_field _ (by omega), field_or_field _ (by omega), field_or_field _ (by omega)]
  apply field_zero_eq
  omega

/-- Index 42H, of a record that carries a window. -/
theorem windowedFlags_toNat (window : Fin 8) (items : BitVec 8) :
    (0#5 ++ BitVec.ofFin (w := 3) window ++ items).toNat = items.toNat + 0x100 * window.val := by
  simp only [Frames.toNat_append_eq, BitVec.toNat_ofNat, BitVec.toNat_ofFin]
  omega

/-- Index 48H, of a failure. -/
theorem causeRegister_eq {cause : BitVec 3} {n : Nat} (discarded : BitVec 4) (h : cause.toNat = n) :
    field 0 n ||| field 8 discarded.toNat = 0#4 ++ discarded ++ 0#5 ++ cause := by
  rw [← h, field_or_field _ (by omega)]
  apply field_zero_eq
  simp only [Frames.toNat_append_eq, BitVec.toNat_ofNat]
  omega

/-! ## The four selections -/

/-- Indices 2EH to 3FH, by what stands in the selected way. -/
theorem inspection_of_way (order : s.OrderLaw) : ∃ p : BitVec 2,
    (s.dir.get s.sel.inspSet).order[p.toNat]? = some s.sel.inspWay ∧
    (s.inspectedWay = .invalid →
      s.readRegister 0x2F#7 = 0#16 ∧ s.readRegister 0x2E#7 = 0#10 ++ p ++ 0#2 ++ 0#2) ∧
    (∀ tag ref, s.inspectedWay = .filling tag ref →
      s.readRegister 0x2F#7 = 0#1 ++ tag ∧
      s.readRegister 0x2E#7 = 0#6 ++ BitVec.ofFin (w := 2) ref ++ 0#2 ++ p ++ 0#2 ++ 1#2) ∧
    ∀ tag data, s.inspectedWay = .valid tag data →
      s.readRegister 0x2F#7 = 0#1 ++ tag ∧ s.readRegister 0x2E#7 = 0#10 ++ p ++ 0#2 ++ 2#2 := by
  obtain ⟨hposition, hstands⟩ := CacheSet.recency_of_orderLaw (order s.sel.inspSet) s.sel.inspWay
  obtain ⟨p, hp⟩ : ∃ p : BitVec 2, p.toNat = s.inspectedSet.recency s.sel.inspWay :=
    ⟨BitVec.ofNat 2 _, Nat.mod_eq_of_lt hposition⟩
  have htag : s.readRegister 0x2F#7 = orZero s.inspectedWay.tag? fun t => field 0 t.toNat := rfl
  have hway : s.readRegister 0x2E#7 =
      field 0 (wayCode s.inspectedWay) ||| field 4 p.toNat ||| orZero s.inspectedWay.ref? fun r => field 8 r.val := by
    rw [hp]
    rfl
  refine ⟨p, by rw [hp]; exact hstands, fun hinvalid => ?_, fun tag ref hfilling => ?_, fun tag data hvalid => ?_⟩
  · rw [htag, hway, hinvalid]
    exact ⟨rfl, (BitVec.or_zero ..).trans (wayRegister_noRef p 0#2)⟩
  · rw [htag, hway, hfilling]
    exact ⟨tagRegister_eq tag, wayRegister_ref p 1#2 ref⟩
  · rw [htag, hway, hvalid]
    exact ⟨tagRegister_eq tag, (BitVec.or_zero ..).trans (wayRegister_noRef p 2#2)⟩

/-- Indices 41H to 48H, by the head record's kind. -/
theorem inspection_of_record {r : ErrorRecord} (h : s.headRecord = some r) :
    s.readRegister 0x41#7 = field 0 (kindCode r.body.kind) ||| field 8 r.count.toNat ∧
    s.readRegister 0x42#7 = recordFlags r.body ∧
    s.readRegister 0x43#7 = offsetLow (r.body.offset?.getD 0#26) ∧
    s.readRegister 0x44#7 = offsetHigh (r.body.offset?.getD 0#26) ∧
    s.readRegister 0x45#7 = remoteLow (r.body.remote?.getD 0#28) ∧
    s.readRegister 0x46#7 = remoteHigh (r.body.remote?.getD 0#28) ∧
    s.readRegister 0x47#7 = recordPair r.body ∧ s.readRegister 0x48#7 = recordCause r.body := by
  have hitem (show' : ErrorRecord → Half) : orZero s.headRecord show' = show' r := by rw [h, orZero_some]
  have hpart {α : Type} (part : ErrorRecord → Option α) (show' : α → Half) :
      orZero (s.headRecord.bind part) show' = orZero (part r) show' := by rw [h, Option.bind_some]
  exact ⟨hitem _, hitem _, (hpart _ _).trans (orZero_offsetLow _), (hpart _ _).trans (orZero_offsetHigh _),
    (hpart _ _).trans (orZero_remoteLow _), (hpart _ _).trans (orZero_remoteHigh _), hitem _, hitem _⟩

/-- Settles O21: each register is the orderly sum of its fields, and what is absent reads 0. -/
theorem inspectionShowsTheSelection : Obligations.InspectionShowsTheSelection := by
  refine ⟨fun s order => ?_, ?_, fun s => ⟨fun hnone k hlow hhigh => State.readRegister_noWrite hnone hlow hhigh, ?_⟩,
    fun s => ⟨fun hnone k hlow hhigh => ?_, ?_⟩⟩
  · obtain ⟨p, hp, hinvalid, hfilling, hvalid⟩ := inspection_of_way order
    have hdata (j : Nat) (h : 2 * j + 1 < 32) : s.readRegister (BitVec.ofNat 7 (0x30 + j)) = s.dataHalf (BitVec.ofNat 4 j) :=
      State.readRegister_data (by omega)
    cases hway : (s.dir.get s.sel.inspSet).ways[s.sel.inspWay] with
    | invalid =>
      obtain ⟨htag, hregister⟩ := hinvalid hway
      refine ⟨htag, ⟨p, hp, hregister⟩, fun j h => (hdata j h).trans ?_⟩
      simp only [State.dataHalf, show s.inspectedWay = .invalid from hway, hway]
    | filling tag ref =>
      obtain ⟨htag, hregister⟩ := hfilling tag ref hway
      refine ⟨htag, ⟨p, hp, hregister⟩, fun j h => (hdata j h).trans ?_⟩
      simp only [State.dataHalf, show s.inspectedWay = .filling tag ref from hway, hway]
    | valid tag data =>
      obtain ⟨htag, hregister⟩ := hvalid tag data hway
      refine ⟨htag, ⟨p, hp, hregister⟩, fun j h => (hdata j h).trans ?_⟩
      simp only [State.dataHalf_valid hway h, hway]
  · rintro e s rfl
    refine ⟨fun hfree => ⟨readItems_free hfree, ?_, ?_, ?_⟩, fun k a p x hk hreq => ⟨readItems_line hk hreq, ?_, ?_, ?_⟩,
      fun k a size hk hreq => ⟨readItems_word hk hreq, ?_, ?_, readTarget_word hk hreq⟩⟩
    · exact congrArg remoteLow (readAddr_free hfree)
    · exact congrArg remoteHigh (readAddr_free hfree)
    · exact readTarget_free hfree
    · exact (remoteLow_eq _).trans (by rw [readAddr_line hk hreq])
    · exact (remoteHigh_eq _).trans (by rw [readAddr_line hk hreq])
    · refine (readTarget_line hk hreq).trans ?_
      cases x <;> rfl
    · exact (remoteLow_eq _).trans (by rw [readAddr_word hk hreq])
    · exact (remoteHigh_eq _).trans (by rw [readAddr_word hk hreq])
  · intro e he
    have hitem (show' : WriteEntry → Half) : orZero s.selectedWrite show' = show' e :=
      (congrArg (orZero · show') he).trans (orZero_some e show')
    refine ⟨(hitem _).trans ((writeItems_eq e).trans ?_), (hitem _).trans ?_, (hitem _).trans ?_, fun k h => ⟨?_, ?_⟩⟩
    · simp only [WriteEntry.seq?, WriteEntry.isReplay, WriteEntry.isSent, WriteEntry.isQueued]
      cases e.state <;> rfl
    · rw [remoteLow_eq, baseOf_toNat]
    · rw [remoteHigh_eq, baseOf_toNat]
    · rw [show s.readRegister 0x1F#7 = _ from hitem _, maskHalf_getLsbD e.bytes h (by omega)]
      simp only [Nat.zero_add]
    · rw [show s.readRegister 0x20#7 = _ from hitem _, maskHalf_getLsbD e.bytes h (by omega)]
  · exact State.readRegister_noRecord (by rw [State.headRecord, hnone]; rfl) hlow hhigh
  · rintro ⟨body, count⟩ rest hlist
    obtain ⟨h41, h42, h43, h44, h45, h46, h47, h48⟩ := inspection_of_record (s := s) (by rw [State.headRecord, hlist]; rfl)
    rw [h41, h42, h43, h44, h45, h46, h47, h48]
    refine ⟨?kind, ?items, ?offset, ?remote, ?pair, ?cause⟩
    case kind => exact kindRegister_eq count (by cases body <;> rfl)
    case items =>
      cases body with
      | readOnlyWrite window o a => exact recordFlags_eq (windowedFlags_toNat window 7#8)
      | readRefused window a | writeRefused window a => exact recordFlags_eq (windowedFlags_toNat window 5#8)
      | _ => exact recordFlags_eq rfl
    case offset =>
      rintro offset rfl
      cases body <;> exact ⟨rfl, rfl⟩
    case remote =>
      rintro remote rfl
      cases body <;> exact ⟨rfl, rfl⟩
    case pair =>
      cases body with
      | noticeGap expected received => exact twoBytes_eq expected received
      | _ => rfl
    case cause =>
      cases body with
      | linkFailed cause discarded => exact causeRegister_eq discarded (by cases cause <;> rfl)
      | _ => rfl

end Sys2Proof.Machine
end

section
/-! SUPPORT. The views on the directory and on the read table that the laws joining the two speak of: one way, one entry's work,
and what an entry's fill aims at (R10, R25). -/

namespace Sys2Proof.Machine

variable {s t : State}

/-! ## One way and one entry -/

/-- One way of the directory. -/
def State.way (s : State) (i : SetIndex) (w : Fin 4) : Way := (s.dir.get i).ways[w]

/-- The work of one read entry, if it is OUTSTANDING (R25). -/
def State.work (s : State) (tag : Fin 4) : Option ReadWork := (s.reads.entries[tag]).work

/-- The line of a fill and its target way; a WORD and a wayless LINE have none (R25). -/
def ReadWork.aim (w : ReadWork) : Option (LineAddr × Target) :=
  match w.request with
  | .line line _ target => target.map (line, ·)
  | .word _ _ => none

/-- What the fill of one entry aims at. -/
def State.aim (s : State) (tag : Fin 4) : Option (LineAddr × Target) := (s.work tag).bind ReadWork.aim

/-- The send phase of one entry, if it is OUTSTANDING (R25). -/
def State.phase (s : State) (tag : Fin 4) : Option Phase := (s.work tag).map ReadWork.phase

theorem State.way_congr (h : t.dir = s.dir) (i : SetIndex) (w : Fin 4) : t.way i w = s.way i w := by
  rw [State.way, h, State.way]

theorem State.work_congr (h : t.reads.entries = s.reads.entries) (tag : Fin 4) : t.work tag = s.work tag := by
  rw [State.work, h, State.work]

theorem State.aim_congr {tag : Fin 4} (h : t.work tag = s.work tag) : t.aim tag = s.aim tag := by
  rw [State.aim, h, State.aim]

theorem State.phase_congr {tag : Fin 4} (h : t.work tag = s.work tag) : t.phase tag = s.phase tag := by
  rw [State.phase, h, State.phase]

theorem State.aim_of_free {tag : Fin 4} (h : s.work tag = none) : s.aim tag = none := by
  rw [State.aim, h, Option.bind_none]

theorem State.phase_of_free {tag : Fin 4} (h : s.work tag = none) : s.phase tag = none := by
  rw [State.phase, h, Option.map_none]

theorem State.way_onSet (s : State) (i j : SetIndex) (f : CacheSet → CacheSet) (w : Fin 4) :
    (s.onSet i f).way j w = if j = i then ((f (s.dir.get i)).ways)[w] else s.way j w := by
  unfold State.way
  rw [State.onSet_dir, Directory.get_put]
  split <;> rfl

theorem State.work_setEntry (s : State) (tag : Fin 4) (e : ReadEntry) (v : Fin 4) :
    (s.setEntry tag e).work v = if v = tag then e.work else s.work v := by
  unfold State.work State.setEntry
  by_cases h : v = tag
  · subst h
    simp
  · rw [if_neg h]
    exact congrArg ReadEntry.work (Vector.getElem_set_ne tag.isLt v.isLt fun hv => h (Fin.ext hv.symm))

theorem State.work_takeEntry (s : State) (tag : Fin 4) (work : ReadWork) (v : Fin 4) :
    (s.takeEntry tag work).work v = if v = tag then some work else s.work v :=
  s.work_setEntry tag { s.reads.entries[tag] with work := some work, issue := 0#2, retries := 0#3, timer := .stopped } v

theorem State.work_freeUp (s : State) (tag v : Fin 4) :
    (s.freeUp tag).work v = if v = tag then none else s.work v :=
  s.work_setEntry tag _ v

theorem State.work_claim (s : State) (line : LineAddr) (ref : Fin 4) (victim : Option (Fin 4)) (v : Fin 4) :
    (s.claim line ref victim).work v = s.work v :=
  State.work_congr (congrArg ReadTable.entries (State.claim_reads ..)) v

/-! ## What a fill aims at (R10) -/

theorem ReadWork.aim_eq_some {w : ReadWork} {line : LineAddr} {x : Target} :
    w.aim = some (line, x) ↔ ∃ p, w.request = .line line p (some x) := by
  obtain ⟨request, window, phase, waiter⟩ := w
  cases request with
  | line line' p target => cases target <;> simp [ReadWork.aim]
  | word addr size => simp [ReadWork.aim]

theorem State.aim_eq_some {tag : Fin 4} {line : LineAddr} {x : Target} :
    s.aim tag = some (line, x) ↔ ∃ work p, s.work tag = some work ∧ work.request = .line line p (some x) := by
  simp only [State.aim, Option.bind_eq_some_iff, ReadWork.aim_eq_some, exists_and_left]

/-- The target way of one entry, if it has one (R25). -/
def State.target (s : State) (tag : Fin 4) : Option Target := (s.work tag).bind ReadWork.target?

theorem State.target_of_aim {tag : Fin 4} {line : LineAddr} {x : Target} (h : s.aim tag = some (line, x)) :
    s.target tag = some x := by
  obtain ⟨work, p, hwork, hrequest⟩ := State.aim_eq_some.mp h
  rw [State.target, hwork, Option.bind_some, ReadWork.target?, hrequest]

theorem ReadWork.aim_of_wayless {w : ReadWork} {request : Request} (h : w.request = request.wayless) : w.aim = none := by
  rw [ReadWork.aim, h]
  cases request <;> rfl

/-- The law of the fill reference by the aims: FILLING ways and aims are the same pairs (R10). -/
theorem State.fillLaw_iff : s.FillLaw ↔
    (∀ i w g ref, s.way i w = .filling g ref → ∃ line, s.aim ref = some (line, ⟨i, w⟩)) ∧
      ∀ tag line x, s.aim tag = some (line, x) → x.set = setOf line ∧ s.way x.set x.way = .filling (tagOf line) tag := by
  constructor
  · intro fill
    refine ⟨fun i w g ref h => ?_, fun tag line x h => ?_⟩
    · obtain ⟨work, hwork, htarget⟩ := fill.1 i w g ref h
      obtain ⟨line, p, hrequest⟩ := ReadWork.request_of_target htarget
      exact ⟨line, State.aim_eq_some.mpr ⟨work, p, hwork, hrequest⟩⟩
    · obtain ⟨work, p, hwork, hrequest⟩ := State.aim_eq_some.mp h
      exact fill.2 tag work line p x hwork hrequest
  · rintro ⟨hways, haims⟩
    refine ⟨fun i w g ref h => ?_, fun tag work line p x hwork hrequest => ?_⟩
    · obtain ⟨line, haim⟩ := hways i w g ref h
      obtain ⟨work, p, hwork, hrequest⟩ := State.aim_eq_some.mp haim
      exact ⟨work, hwork, by rw [ReadWork.target?, hrequest]⟩
    · exact haims tag line x (State.aim_eq_some.mpr ⟨work, p, hwork, hrequest⟩)

/-! ## Ways that fade: no way gains a tag, and fills end on both sides (R4, R10) -/

/-- A way stays as it is, or it is FILLING no more and holds no tag that it did not hold. -/
def Way.Settles (x y : Way) : Prop :=
  y = x ∨ y.isFilling = false ∧ ∀ g, y.tag? = some g → x.tag? = some g

theorem Way.Settles.tag {x y : Way} (h : x.Settles y) {g : Tag} (hy : y.tag? = some g) : x.tag? = some g := by
  rcases h with rfl | ⟨-, htag⟩
  · exact hy
  · exact htag g hy

theorem Way.Settles.of_filling {x y : Way} (h : x.Settles y) (hy : y.isFilling = true) : y = x := by
  rcases h with h | ⟨hn, -⟩
  · exact h
  · rw [hn] at hy
    cases hy

theorem Way.Settles.not_filling {x y : Way} (h : x.Settles y) (hx : x.isFilling = false) : y.isFilling = false := by
  rcases h with rfl | ⟨hn, -⟩
  · exact hx
  · exact hn

theorem Way.Settles.invalid {y : Way} (h : Way.invalid.Settles y) : y = .invalid := by
  cases y with
  | invalid => rfl
  | filling g ref => cases h.tag rfl
  | valid g data => cases h.tag rfl

theorem Way.settles_invalid (x : Way) : x.Settles .invalid := .inr ⟨rfl, fun _ h => by cases h⟩

theorem Way.settles_valid {x : Way} {g : Tag} (data : Line) (h : x.tag? = some g) : x.Settles (.valid g data) :=
  .inr ⟨rfl, fun _ hg => h.trans hg⟩

/-- Every way settles, no entry gains an aim, and an aim goes exactly when its way is FILLING no more. -/
structure State.Fades (s t : State) : Prop where
  ways : ∀ i w, (s.way i w).Settles (t.way i w)
  aims : ∀ tag p, t.aim tag = some p → s.aim tag = some p
  fills : ∀ tag line x, s.aim tag = some (line, x) → ((t.aim tag).isSome = true ↔ (t.way x.set x.way).isFilling = true)

namespace State.Fades

theorem uniqueLaw (h : s.Fades t) (unique : s.UniqueLaw) : t.UniqueLaw :=
  fun i v w g hv hw => unique i v w g ((h.ways i v).tag hv) ((h.ways i w).tag hw)

theorem noFilling (h : s.Fades t) (hs : s.NoFilling) : t.NoFilling :=
  fun i w => (h.ways i w).not_filling (hs i w)

theorem fillLaw (h : s.Fades t) (fill : s.FillLaw) : t.FillLaw := by
  obtain ⟨hways, haims⟩ := State.fillLaw_iff.mp fill
  refine State.fillLaw_iff.mpr ⟨fun i w g ref hw => ?_, fun tag line x haim => ?_⟩
  · have hfilling : (t.way i w).isFilling = true := by rw [hw]; rfl
    obtain ⟨line, haim⟩ := hways i w g ref (((h.ways i w).of_filling hfilling).symm.trans hw)
    obtain ⟨p, hp⟩ := Option.isSome_iff_exists.mp ((h.fills ref line _ haim).mpr hfilling)
    exact ⟨line, by rw [hp, ← h.aims ref p hp, haim]⟩
  · have haim' := h.aims tag _ haim
    obtain ⟨hset, hway⟩ := haims tag line x haim'
    have hfilling := (h.fills tag line x haim').mp (by rw [haim]; rfl)
    exact ⟨hset, ((h.ways x.set x.way).of_filling hfilling).trans hway⟩

theorem sweepLaw (h : s.Fades t) (sweep : s.SweepLaw) (hsweep : t.sweep = s.sweep) : t.SweepLaw := by
  intro p hp
  obtain ⟨hnone, hbelow⟩ := sweep p (hsweep.symm.trans hp)
  refine ⟨h.noFilling hnone, fun i w hi => ?_⟩
  have hway := h.ways i w
  rw [show s.way i w = .invalid from hbelow i w hi] at hway
  exact hway.invalid

/-- FILLING ways and aims stay, while the other ways settle. -/
theorem of_fills_kept (fill : s.FillLaw) (hways : ∀ i w, (s.way i w).Settles (t.way i w))
    (hkept : ∀ i w, (s.way i w).isFilling = true → t.way i w = s.way i w) (haims : ∀ tag, t.aim tag = s.aim tag) :
    s.Fades t where
  ways := hways
  aims tag p hp := (haims tag).symm.trans hp
  fills tag line x hx := by
    have hway := ((State.fillLaw_iff.mp fill).2 tag line x hx).2
    have hfilling : (s.way x.set x.way).isFilling = true := by rw [hway]; rfl
    rw [haims, hx, hkept _ _ hfilling, hfilling]
    simp

theorem of_dir (fill : s.FillLaw) (hdir : t.dir = s.dir) (haims : ∀ tag, t.aim tag = s.aim tag) : s.Fades t :=
  of_fills_kept fill (fun i w => .inl (State.way_congr hdir i w)) (fun i w _ => State.way_congr hdir i w) haims

/-- One set changes, and in it only ways that are not FILLING. -/
theorem onSet (fill : s.FillLaw) (i : SetIndex) {f : CacheSet → CacheSet}
    (hf : ∀ w : Fin 4, ((f (s.dir.get i)).ways)[w] = s.way i w ∨
      (s.way i w).isFilling = false ∧ (s.way i w).Settles ((f (s.dir.get i)).ways)[w]) : s.Fades (s.onSet i f) := by
  refine of_fills_kept fill (fun j w => ?_) (fun j w hfilling => ?_) fun tag => rfl
  · rw [State.way_onSet]
    split
    · rename_i hj
      subst hj
      exact (hf w).elim .inl And.right
    · exact .inl rfl
  · rw [State.way_onSet]
    split
    · rename_i hj
      subst hj
      rcases hf w with h | ⟨hn, -⟩
      · exact h
      · rw [hn] at hfilling
        cases hfilling
    · rfl

/-- One entry's fill ends: it aims at nothing more, its way is FILLING no more, and the rest stays. -/
theorem of_ended (fill : s.FillLaw) {tag : Fin 4} (hended : t.aim tag = none) (haims : ∀ v, v ≠ tag → t.aim v = s.aim v)
    (hway : ∀ x, s.target tag = some x →
      (t.way x.set x.way).isFilling = false ∧ (s.way x.set x.way).Settles (t.way x.set x.way))
    (hrest : ∀ i w, s.target tag ≠ some ⟨i, w⟩ → t.way i w = s.way i w) : s.Fades t where
  ways i w := by
    by_cases h : s.target tag = some ⟨i, w⟩
    · exact (hway _ h).2
    · exact .inl (hrest i w h)
  aims v p hp := by
    by_cases hv : v = tag
    · subst hv
      rw [hended] at hp
      cases hp
    · exact (haims v hv).symm.trans hp
  fills v line x hx := by
    by_cases hv : v = tag
    · subst hv
      rw [hended, (hway x (State.target_of_aim hx)).1]
      simp
    · have hfilling := ((State.fillLaw_iff.mp fill).2 v line x hx).2
      have hkept : t.way x.set x.way = s.way x.set x.way := by
        refine hrest _ _ fun htarget => hv ?_
        obtain ⟨g, hother⟩ := fill.filling htarget
        exact (Way.filling.inj (hfilling.symm.trans hother)).2
      rw [haims v hv, hx, hkept, hfilling]
      simp [Way.isFilling]

end State.Fades

end Sys2Proof.Machine
end

section
/-! SUPPORT. The laws of the directory and of the read table that stand without the bus: uniqueness (R4), the fill reference (R10),
the running sweep (R85) and the send list (R27), and that every change of the two blocks keeps them. -/

namespace Sys2Proof.Machine

variable {s t : State}

/-- The laws of the directory, and those of the read table that do not speak of the bus. -/
structure State.Tracked (s : State) : Prop where
  unique : s.UniqueLaw
  fill : s.FillLaw
  sweep : s.SweepLaw
  send : s.SendLaw

/-- The law of the send list by the entries' phases (R27). -/
theorem State.sendLaw_iff :
    s.SendLaw ↔ s.reads.sendList.Nodup ∧ ∀ tag, tag ∈ s.reads.sendList ↔ s.phase tag = some .awaiting := by
  simp only [State.SendLaw, State.phase, State.work, Option.map_eq_some_iff]

theorem State.SendLaw.congr (h : s.SendLaw) (hlist : t.reads.sendList = s.reads.sendList)
    (hphase : ∀ tag, t.phase tag = some .awaiting ↔ s.phase tag = some .awaiting) : t.SendLaw := by
  obtain ⟨hnodup, hmem⟩ := State.sendLaw_iff.mp h
  refine State.sendLaw_iff.mpr ⟨hlist ▸ hnodup, fun tag => ?_⟩
  rw [hlist, hphase]
  exact hmem tag

theorem State.SweepLaw.of_idle (h : s.sweep.isRunning = false) : s.SweepLaw := fun p hp => by
  rw [hp] at h
  cases h

namespace State.Fades

/-- Every FILLING way is released and every entry aims at nothing (R44, R81). -/
theorem of_released (hways : ∀ i w, t.way i w = if (s.way i w).isFilling then .invalid else s.way i w)
    (haims : ∀ tag, t.aim tag = none) : s.Fades t where
  ways i w := by
    rw [hways]
    split
    · exact Way.settles_invalid _
    · exact .inl rfl
  aims tag p hp := by
    rw [haims] at hp
    cases hp
  fills tag line x _ := by
    rw [haims, hways]
    split
    · exact iff_of_false Bool.false_ne_true Bool.false_ne_true
    · rename_i hn
      exact iff_of_false Bool.false_ne_true hn

end State.Fades

namespace State.Tracked

theorem of_fades (h : s.Tracked) (hfades : s.Fades t) (hsweep : t.sweep = s.sweep)
    (hlist : t.reads.sendList = s.reads.sendList)
    (hphase : ∀ tag, t.phase tag = some .awaiting ↔ s.phase tag = some .awaiting) : t.Tracked where
  unique := hfades.uniqueLaw h.unique
  fill := hfades.fillLaw h.fill
  sweep := hfades.sweepLaw h.sweep hsweep
  send := h.send.congr hlist hphase

theorem of_same (h : s.Tracked) (hdir : t.dir = s.dir) (hsweep : t.sweep = s.sweep) (hreads : t.reads = s.reads) :
    t.Tracked := by
  have hwork (tag : Fin 4) : t.work tag = s.work tag := State.work_congr (congrArg ReadTable.entries hreads) tag
  exact h.of_fades (.of_dir h.fill hdir fun tag => State.aim_congr (hwork tag)) hsweep (by rw [hreads]) fun tag => by
    rw [State.phase_congr (hwork tag)]

/-! ## Changes of the directory (R6, R14 to R16) -/

theorem onSet (h : s.Tracked) (i : SetIndex) {f : CacheSet → CacheSet}
    (hf : ∀ w : Fin 4, ((f (s.dir.get i)).ways)[w] = s.way i w ∨
      (s.way i w).isFilling = false ∧ (s.way i w).Settles ((f (s.dir.get i)).ways)[w]) : (s.onSet i f).Tracked :=
  h.of_fades (.onSet h.fill i hf) rfl rfl fun _ => .rfl

theorem drop (h : s.Tracked) {i : SetIndex} {w : Fin 4} (hw : (s.way i w).isFilling = false) :
    (s.onSet i (CacheSet.drop w)).Tracked := by
  refine h.onSet i fun v => ?_
  rw [CacheSet.getElem_drop]
  split
  · rename_i hv
    subst hv
    exact .inr ⟨hw, Way.settles_invalid _⟩
  · exact .inl rfl

theorem update (h : s.Tracked) (i : SetIndex) (w : Fin 4) (bytes : MaskedLine) :
    (s.onSet i (CacheSet.update w bytes)).Tracked := by
  refine h.onSet i fun v => ?_
  unfold CacheSet.update
  split
  · rename_i g data hw
    rw [CacheSet.getElem_setWay]
    split
    · rename_i hv
      subst hv
      rw [show s.way i v = .valid g data from hw]
      exact .inr ⟨rfl, Way.settles_valid _ rfl⟩
    · exact .inl rfl
  all_goals exact .inl rfl

theorem invalidateValid (h : s.Tracked) (line : LineAddr) : (s.invalidateValid line).Tracked := by
  unfold State.invalidateValid
  split
  · rename_i w g data hfound
    refine h.drop ?_
    rw [State.way, (Directory.way_of_findWay hfound).1]
    rfl
  all_goals exact h

theorem directorySeesWrite (h : s.Tracked) (cacheable : Bool) (line : LineAddr) (bytes : MaskedLine) :
    (s.directorySeesWrite cacheable line bytes).Tracked := by
  unfold State.directorySeesWrite
  split
  · exact h
  · split
    · split
      · exact h.update _ _ _
      · exact h
    · exact h.invalidateValid line

/-! ## The end of one fill (R11, R12, R13) -/

/-- One entry's fill ends, its way FILLING no more and its entry no longer AWAITING what it was not AWAITING. -/
theorem of_ended (h : s.Tracked) {tag : Fin 4} (hended : t.aim tag = none)
    (hwork : ∀ v, v ≠ tag → t.work v = s.work v) (hphase : t.phase tag = some .awaiting ↔ s.phase tag = some .awaiting)
    (hway : ∀ x, s.target tag = some x →
      (t.way x.set x.way).isFilling = false ∧ (s.way x.set x.way).Settles (t.way x.set x.way))
    (hrest : ∀ i w, s.target tag ≠ some ⟨i, w⟩ → t.way i w = s.way i w)
    (hsweep : t.sweep = s.sweep) (hlist : t.reads.sendList = s.reads.sendList) : t.Tracked := by
  refine h.of_fades (.of_ended h.fill hended (fun v hv => State.aim_congr (hwork v hv)) hway hrest) hsweep hlist fun v => ?_
  by_cases hv : v = tag
  · rw [hv]
    exact hphase
  · rw [State.phase_congr (hwork v hv)]

end State.Tracked

theorem State.way_drop (s : State) (x : Target) (i : SetIndex) (w : Fin 4) :
    (s.onSet x.set (CacheSet.drop x.way)).way i w = if (⟨i, w⟩ : Target) = x then .invalid else s.way i w :=
  Directory.getElem_failed s.dir x i w

theorem ReadWork.release_aim (w : ReadWork) : w.release.aim = none := by
  rw [ReadWork.release_eq]
  exact ReadWork.aim_of_wayless rfl

theorem State.work_releaseEntry (s : State) (ref v : Fin 4) :
    (s.releaseEntry ref).work v = if v = ref then (s.work ref).map ReadWork.release else s.work v :=
  s.work_setEntry ref _ v

namespace State.Tracked

/-- A FILLING way released with its entry's target, for a NOTICE or INVALIDATE_LINE (R13). -/
theorem dropLine (h : s.Tracked) (line : LineAddr) : (s.dropLine line).Tracked := by
  unfold State.dropLine
  split
  · rename_i w g data hfound
    refine h.drop ?_
    rw [State.way, (Directory.way_of_findWay hfound).1]
    rfl
  · rename_i w g ref hfound
    have htarget : s.target ref = some ⟨setOf line, w⟩ := h.fill.target (Directory.way_of_findWay hfound).1
    have hway (i : SetIndex) (v : Fin 4) :
        ((s.onSet (setOf line) (CacheSet.drop w)).releaseEntry ref).way i v =
          if (⟨i, v⟩ : Target) = ⟨setOf line, w⟩ then .invalid else s.way i v := s.way_drop ⟨setOf line, w⟩ i v
    have hwork (v : Fin 4) : ((s.onSet (setOf line) (CacheSet.drop w)).releaseEntry ref).work v =
        if v = ref then (s.work ref).map ReadWork.release else s.work v := State.work_releaseEntry _ ref v
    refine h.of_ended (tag := ref) ?_ (fun v hv => by rw [hwork, if_neg hv]) ?_ (fun x hx => ?_) (fun i v hne => ?_) rfl rfl
    · rw [State.aim, hwork, if_pos rfl]
      cases s.work ref with
      | none => rfl
      | some k => exact k.release_aim
    · rw [State.phase, hwork, if_pos rfl, State.phase]
      cases s.work ref with
      | none => rfl
      | some k => simp [ReadWork.release_eq]
    · obtain rfl := Option.some.inj (htarget.symm.trans hx)
      rw [hway, if_pos rfl]
      exact ⟨rfl, Way.settles_invalid _⟩
    · rw [hway, if_neg fun hx : (⟨i, v⟩ : Target) = ⟨setOf line, w⟩ => hne (htarget.trans (congrArg some hx.symm))]
  all_goals exact h

end State.Tracked

/-! ## The end of an answered entry (R34, R37) -/

/-- A FILLING way with a fill buffer installed (R11). -/
def Way.installed (data : Line) (x : Way) : Way :=
  match x with
  | .filling g _ => .valid g data
  | .invalid | .valid _ _ => x

theorem Way.installed_not_filling (data : Line) (x : Way) : (x.installed data).isFilling = false := by
  cases x <;> rfl

theorem Way.settles_installed (data : Line) (x : Way) : x.Settles (x.installed data) := by
  cases x with
  | filling g ref => exact Way.settles_valid data rfl
  | invalid => exact .inl rfl
  | valid g data' => exact .inl rfl

theorem CacheSet.getElem_install (c : CacheSet) (w v : Fin 4) (data : Line) :
    ((c.install w data).ways)[v] = if v = w then (c.ways[w]).installed data else c.ways[v] := by
  have hset (x : Way) : (((c.setWay w x).toFront w).ways)[v] = if v = w then x else c.ways[v] := c.getElem_setWay w v x
  unfold CacheSet.install Way.installed
  split
  · rename_i g ref hw
    rw [hset, hw]
  all_goals
    split
    · rename_i hv
      subst hv
      simp only [*]
    · rfl

theorem State.way_failFill (s : State) (target : Option Target) (i : SetIndex) (w : Fin 4) :
    (s.failFill target).way i w = if target = some ⟨i, w⟩ then .invalid else s.way i w := by
  cases target with
  | none => rfl
  | some x =>
    rw [State.failFill, State.way_drop]
    simp only [Option.some.injEq, eq_comm]

theorem State.way_installFill (s : State) (target : Option Target) (data : Line) (i : SetIndex) (w : Fin 4) :
    (s.installFill target data).way i w =
      if target = some ⟨i, w⟩ then (s.way i w).installed data else s.way i w := by
  cases target with
  | none => rfl
  | some x =>
    obtain ⟨j, v⟩ := x
    rw [State.installFill, State.way_onSet]
    by_cases hj : i = j
    · subst hj
      rw [if_pos rfl, CacheSet.getElem_install]
      by_cases hv : w = v
      · subst hv
        rw [if_pos rfl, if_pos rfl]
        rfl
      · rw [if_neg hv, if_neg fun h => hv (by cases h; rfl)]
        rfl
    · rw [if_neg hj, if_neg fun h => hj (by cases h; rfl)]

namespace State.Tracked

/-- An IN_FLIGHT entry ends, and its target way, if it has one, is FILLING no more (R11, R12). -/
theorem freed (h : s.Tracked) {tag : Fin 4} {change : Way → Way}
    (hchange : ∀ x : Way, (change x).isFilling = false ∧ x.Settles (change x))
    (hway : ∀ i w, t.way i w = if s.target tag = some ⟨i, w⟩ then change (s.way i w) else s.way i w)
    (hwork : ∀ v, t.work v = if v = tag then none else s.work v) (hphase : s.phase tag ≠ some .awaiting)
    (hsweep : t.sweep = s.sweep) (hlist : t.reads.sendList = s.reads.sendList) : t.Tracked := by
  have hfree : t.work tag = none := by rw [hwork, if_pos rfl]
  refine h.of_ended (State.aim_of_free hfree) (fun v hv => by rw [hwork, if_neg hv])
    (iff_of_false (by simp [State.phase_of_free hfree]) hphase) (fun x hx => ?_) (fun i w hne => ?_) hsweep hlist
  · rw [hway, if_pos hx]
    exact hchange _
  · rw [hway, if_neg hne]

/-! ## An entry taken (R27, R28, R9) -/

end State.Tracked

theorem State.SendLaw.taken (h : s.SendLaw) {tag : Fin 4} {work : ReadWork} (hfree : s.phase tag ≠ some .awaiting)
    (hphase : work.phase = .awaiting) (hwork : ∀ v, t.work v = if v = tag then some work else s.work v)
    (hlist : t.reads.sendList = s.reads.sendList ++ [tag]) : t.SendLaw := by
  obtain ⟨hnodup, hmem⟩ := State.sendLaw_iff.mp h
  have hnot : tag ∉ s.reads.sendList := fun hin => hfree ((hmem tag).mp hin)
  refine State.sendLaw_iff.mpr ⟨?_, fun v => ?_⟩
  · rw [hlist]
    exact hnodup.append (List.nodup_singleton tag) (by simpa using hnot)
  · rw [hlist, List.mem_append, List.mem_singleton, hmem, State.phase, State.phase, hwork]
    by_cases hv : v = tag
    · simp [hv, hphase]
    · simp [hv]

namespace State.Tracked

/-- A FREE entry is taken for a fill without a target way, or for a word. -/
theorem takeEntry (h : s.Tracked) {tag : Fin 4} {work : ReadWork} (hfree : s.work tag = none)
    (haim : work.aim = none) (hphase : work.phase = .awaiting) : (s.takeEntry tag work).Tracked := by
  have hwork (v : Fin 4) := s.work_takeEntry tag work v
  have hfades : s.Fades (s.takeEntry tag work) := .of_dir h.fill rfl fun v => by
    rw [State.aim, hwork]
    by_cases hv : v = tag
    · subst hv
      rw [if_pos rfl, Option.bind_some, haim, State.aim_of_free hfree]
    · rw [if_neg hv, State.aim]
  exact ⟨hfades.uniqueLaw h.unique, hfades.fillLaw h.fill, hfades.sweepLaw h.sweep rfl,
    h.send.taken (by simp [State.phase_of_free hfree]) hphase hwork rfl⟩

end State.Tracked

/-- A way claimed for a line that its set misses leaves the tags of the set distinct (R4, R9). -/
theorem State.UniqueLaw.claimed (unique : s.UniqueLaw) {line : LineAddr} {w ref : Fin 4}
    (hway : ∀ i v, t.way i v = if i = setOf line ∧ v = w then .filling (tagOf line) ref else s.way i v)
    (hmiss : s.dir.Misses line) : t.UniqueLaw := by
  intro i v v' g hv hv'
  replace hv : (t.way i v).tag? = some g := hv
  replace hv' : (t.way i v').tag? = some g := hv'
  rw [hway] at hv hv'
  by_cases hc : i = setOf line ∧ v = w <;> by_cases hc' : i = setOf line ∧ v' = w
  · exact hc.2.trans hc'.2.symm
  · rw [if_pos hc] at hv
    rw [if_neg hc', hc.1, ← hv] at hv'
    exact absurd hv' (hmiss v')
  · rw [if_pos hc'] at hv'
    rw [if_neg hc, hc'.1, ← hv'] at hv
    exact absurd hv (hmiss v)
  · rw [if_neg hc] at hv
    rw [if_neg hc'] at hv'
    exact unique i v v' g hv hv'

/-- A claim adds one FILLING way and the aim of the entry that claims it (R9, R10). -/
theorem State.FillLaw.claimed (fill : s.FillLaw) {tag : Fin 4} {line : LineAddr} {w : Fin 4}
    (hway : ∀ i v, t.way i v = if i = setOf line ∧ v = w then .filling (tagOf line) tag else s.way i v)
    (haim : ∀ v, t.aim v = if v = tag then some (line, ⟨setOf line, w⟩) else s.aim v)
    (hfree : s.aim tag = none) (hw : (s.way (setOf line) w).isFilling = false) : t.FillLaw := by
  obtain ⟨hways, haims⟩ := State.fillLaw_iff.mp fill
  refine State.fillLaw_iff.mpr ⟨fun i v g ref hv => ?_, fun v line' x hx => ?_⟩
  · rw [hway] at hv
    by_cases hc : i = setOf line ∧ v = w
    · rw [if_pos hc] at hv
      obtain ⟨rfl, rfl⟩ := hc
      exact ⟨line, by rw [haim, if_pos (Way.filling.inj hv).2.symm]⟩
    · rw [if_neg hc] at hv
      obtain ⟨line', hline'⟩ := hways i v g ref hv
      have hne : ref ≠ tag := by
        rintro rfl
        rw [hfree] at hline'
        cases hline'
      exact ⟨line', by rw [haim, if_neg hne, hline']⟩
  · rw [haim] at hx
    by_cases hv : v = tag
    · rw [if_pos hv] at hx
      cases hx
      exact ⟨rfl, by rw [hway, if_pos ⟨rfl, rfl⟩, hv]⟩
    · rw [if_neg hv] at hx
      obtain ⟨hset, hfilling⟩ := haims v line' x hx
      have hne : ¬ (x.set = setOf line ∧ x.way = w) := by
        rintro ⟨hi, rfl⟩
        rw [← hi, hfilling] at hw
        cases hw
      exact ⟨hset, by rw [hway, if_neg hne, hfilling]⟩

namespace State.Tracked

/-- A FREE entry is taken for a fill, and claims a way that is not FILLING for a line that its set misses (R9, R32). -/
theorem takeClaimed (h : s.Tracked) {tag : Fin 4} {line : LineAddr} {w : Fin 4} (purpose : Purpose) (window : Fin 8)
    (waiter : Bool) (hfree : s.work tag = none) (hsweep : s.sweep.isRunning = false)
    (hw : (s.way (setOf line) w).isFilling = false) (hmiss : s.dir.Misses line) :
    (s.takeLine tag line purpose window waiter (some w)).Tracked := by
  let work : ReadWork := ⟨.line line purpose (some ⟨setOf line, w⟩), window, .awaiting, waiter⟩
  let t := s.takeLine tag line purpose window waiter (some w)
  have hway (i : SetIndex) (v : Fin 4) :
      t.way i v = if i = setOf line ∧ v = w then .filling (tagOf line) tag else s.way i v := by
    refine (State.way_onSet (s.takeEntry tag work) (setOf line) i _ v).trans ?_
    by_cases hi : i = setOf line
    · subst hi
      simp only [true_and, if_true]
      exact CacheSet.getElem_setWay _ w v _
    · rw [if_neg hi, if_neg fun h => hi h.1]
      rfl
  have hwork (v : Fin 4) : t.work v = if v = tag then some work else s.work v := s.work_takeEntry tag work v
  have haim (v : Fin 4) : t.aim v = if v = tag then some (line, ⟨setOf line, w⟩) else s.aim v := by
    rw [State.aim, hwork]
    split <;> rfl
  exact ⟨h.unique.claimed hway hmiss, h.fill.claimed hway haim (State.aim_of_free hfree) hw, .of_idle hsweep,
    h.send.taken (by simp [State.phase_of_free hfree]) rfl hwork rfl⟩

/-! ## The path of a read (R132 to R136) -/

/-- A fill is taken with the victim that its line is offered (R5, R8, R20). -/
theorem takeOffered (h : s.Tracked) {tag : Fin 4} {line : LineAddr} (purpose : Purpose) (window : Fin 8) (waiter : Bool)
    (hfree : s.work tag = none) (hmiss : s.sweep.isRunning = true ∨ s.dir.Misses line) :
    (s.takeLine tag line purpose window waiter (s.offerVictim line)).Tracked := by
  unfold State.offerVictim
  split
  · exact h.takeEntry hfree rfl rfl
  · rename_i hoffer
    simp only [Bool.or_eq_true, not_or, Bool.not_eq_true] at hoffer
    cases hvictim : (s.dir.get (setOf line)).victim with
    | none => exact h.takeEntry hfree rfl rfl
    | some w =>
      have hw : (s.way (setOf line) w).isFilling = false := by simpa [State.way] using List.find?_some hvictim
      refine h.takeClaimed purpose window waiter hfree hoffer.1 hw (hmiss.resolve_left ?_)
      rw [hoffer.1]
      exact Bool.false_ne_true

end State.Tracked

theorem State.work_of_freeEntry {tag : Fin 4} (h : s.freeEntry = some tag) : s.work tag = none := by
  simpa [State.work] using List.find?_some h

namespace State.Tracked

theorem considerPrefetch (h : s.Tracked) (a : Access) : (s.considerPrefetch a).Tracked := by
  unfold State.considerPrefetch
  split
  · rename_i hwanted
    obtain ⟨-, -, hmisses, -⟩ := (State.wantsPrefetch_iff a).mp hwanted
    split
    · rename_i tag hfree
      exact h.takeOffered _ _ _ (State.work_of_freeEntry hfree) (.inr hmisses)
    · exact h
  · exact h

theorem readMiss (h : s.Tracked) (a : Access) (hmiss : s.sweep.isRunning = true ∨ s.dir.Misses (lineOf a.remote)) :
    (s.readMiss a (s.offerVictim (lineOf a.remote))).Tracked := by
  unfold State.readMiss
  split
  · rename_i tag hfree
    exact ((h.takeOffered .demand a.window true (State.work_of_freeEntry hfree) hmiss).considerPrefetch a).of_same
      rfl rfl rfl
  · exact h.of_same rfl rfl rfl

theorem readWord (h : s.Tracked) (a : Access) : (s.readWord a).Tracked := by
  unfold State.readWord
  split
  · rename_i tag hfree
    refine (h.takeEntry (work := ⟨.word a.remote a.size, a.window, .awaiting, true⟩) (State.work_of_freeEntry hfree)
      rfl rfl).of_same rfl rfl rfl
  · exact h.of_same rfl rfl rfl

end State.Tracked

theorem ReadWork.join_aim (window : Fin 8) (w : ReadWork) : (w.join window).aim = w.aim := by
  obtain ⟨request, _, _, _⟩ := w
  cases request <;> rfl

namespace State.Tracked

/-- A change of one entry's work that keeps its aim and whether it is AWAITING. -/
theorem reworked (h : s.Tracked) {tag : Fin 4} {f : ReadWork → ReadWork} (haim : ∀ w, (f w).aim = w.aim)
    (hphase : ∀ w, (f w).phase = w.phase) (hdir : t.dir = s.dir) (hsweep : t.sweep = s.sweep)
    (hlist : t.reads.sendList = s.reads.sendList)
    (hwork : ∀ v, t.work v = if v = tag then (s.work tag).map f else s.work v) : t.Tracked := by
  refine h.of_fades (.of_dir h.fill hdir fun v => ?_) hsweep hlist fun v => ?_
  · rw [State.aim, State.aim, hwork]
    split
    · rename_i hv
      subst hv
      cases s.work v with
      | none => rfl
      | some w => exact haim w
    · rfl
  · rw [State.phase, State.phase, hwork]
    split
    · rename_i hv
      subst hv
      cases s.work v with
      | none => rfl
      | some w => rw [Option.map_some, Option.map_some, Option.map_some, hphase]
    · rfl

theorem readLookup (h : s.Tracked) (counted : Bool) (a : Access) : (s.readLookup counted a).Tracked := by
  have hbump (n : CounterName) : (s.bumpIf counted n).Tracked :=
    h.of_same (State.bumpIf_dir ..) (State.bumpIf_sweep ..) (State.bumpIf_reads ..)
  unfold State.readLookup
  obtain ⟨w, data, hlookup, -⟩ | ⟨w, ref, hlookup, -⟩ | ⟨hlookup, hmiss⟩ := s.lookup_cases (lineOf a.remote)
  · rw [hlookup]
    exact ((hbump .hits).onSet (setOf (lineOf a.remote)) fun v => .inl rfl).of_same rfl rfl rfl
  · rw [hlookup]
    refine (hbump .misses).reworked (tag := ref) (f := ReadWork.join a.window) (ReadWork.join_aim a.window)
      (ReadWork.join_phase a.window) rfl rfl rfl fun v => ?_
    refine (State.work_setEntry (s.bumpIf counted .misses) ref _ v).trans ?_
    rw [State.work_congr (t := s.bumpIf counted .misses) (s := s) (by rw [State.bumpIf_reads]) ref]
    rfl
  · rw [hlookup]
    have hoffer : s.offerVictim (lineOf a.remote) = (s.bumpIf counted .misses).offerVictim (lineOf a.remote) := by
      simp [State.offerVictim]
    simp only [hoffer]
    exact (hbump .misses).readMiss a (by simpa using hmiss)

theorem dispatchRead (h : s.Tracked) (counted : Bool) (a : Access) : (s.dispatchRead counted a).Tracked := by
  unfold State.dispatchRead
  split
  · exact h.readLookup counted a
  · exact h.readWord a

theorem startRead (h : s.Tracked) (a : Access) : (s.startRead a).Tracked := by
  unfold State.startRead
  split
  · exact h.of_same rfl rfl rfl
  · exact h.dispatchRead true a

theorem resumeFreeEntry (h : s.Tracked) : s.resumeFreeEntry.Tracked := by
  unfold State.resumeFreeEntry
  split
  · split
    · exact h.dispatchRead false _
    · exact h
  · exact h

theorem resumeQueueEmpty (h : s.Tracked) : s.resumeQueueEmpty.Tracked := by
  unfold State.resumeQueueEmpty
  split
  · split
    · exact h.dispatchRead true _
    · exact h
  · exact h

/-! ## The path of a write (R50) -/

theorem presentWrite (h : s.Tracked) (a : Access) : (s.presentWrite a).Tracked := by
  unfold State.presentWrite
  split
  · rename_i q _
    have hseen := (h.of_same (t := { s with wq := q }) rfl rfl rfl).directorySeesWrite a.attrs.cacheable
      (lineOf a.remote) a.bytes
    dsimp only
    split <;> exact hseen.of_same rfl rfl rfl
  · exact h.of_same rfl rfl rfl

theorem resumeQueueSpace (h : s.Tracked) : s.resumeQueueSpace.Tracked := by
  unfold State.resumeQueueSpace
  split
  · split
    · exact h.presentWrite _
    · exact h
  · exact h

/-! ## Responses (R34, R37) -/

theorem completeRead (h : s.Tracked) {tag : Fin 4} {w : ReadWork} (returned : Line) (hw : s.work tag = some w)
    (hphase : w.phase = .inFlight) : (s.completeRead tag w returned).Tracked := by
  let buffer := overlayQueue w.request s.wq.entries returned
  let filled := s.setEntry tag { s.reads.entries[tag] with fill := buffer }
  have hfilled (v : Fin 4) : filled.work v = s.work v := by
    refine (s.work_setEntry tag _ v).trans ?_
    split
    · rename_i hv
      rw [hv]
      rfl
    · rfl
  have hended : (((filled.installFill w.target? buffer).deliver w.waiter buffer).freeUp tag).Tracked := by
    refine h.freed (tag := tag) (change := Way.installed buffer)
      (fun x => ⟨Way.installed_not_filling buffer x, Way.settles_installed buffer x⟩) (fun i v => ?_) (fun v => ?_)
      (by simp [State.phase, hw, hphase]) ?_ ?_
    · refine (State.way_congr (s := filled.installFill w.target? buffer) (State.deliver_dir ..) i v).trans ?_
      rw [State.way_installFill, State.target, hw, Option.bind_some]
      rfl
    · rw [State.work_freeUp, State.work_congr (s := filled) (by rw [State.deliver_reads, State.installFill_reads]), hfilled]
    · exact (State.deliver_sweep ..).trans (State.installFill_sweep ..)
    · exact (congrArg ReadTable.sendList ((State.deliver_reads ..).trans (State.installFill_reads ..)) :)
  exact hended.resumeFreeEntry

theorem refuseRead (h : s.Tracked) {tag : Fin 4} {w : ReadWork} (hw : s.work tag = some w)
    (hphase : w.phase = .inFlight) : (s.refuseRead tag w).Tracked := by
  have hfailed (t : State) (hdir : t.dir = (s.failFill w.target?).dir) (hreads : t.reads = s.reads)
      (hsweep : t.sweep = s.sweep) : (t.freeUp tag).Tracked := by
    refine h.freed (tag := tag) (change := fun _ => .invalid) (fun x => ⟨rfl, Way.settles_invalid x⟩) (fun i v => ?_)
      (fun v => ?_) (by simp [State.phase, hw, hphase]) hsweep
      (congrArg ReadTable.sendList hreads :)
    · refine (State.way_congr (s := s.failFill w.target?) hdir i v).trans ?_
      rw [State.way_failFill, State.target, hw, Option.bind_some]
    · rw [State.work_freeUp, State.work_congr (s := s) (by rw [hreads])]
  unfold State.refuseRead
  dsimp only
  refine resumeFreeEntry (hfailed _ ?_ ?_ ?_)
  all_goals
    split
    · split <;> simp
    · simp

end State.Tracked

/-! ## The transmitter and the resend of a request (R27, R40) -/

theorem State.aim_rephased {tag : Fin 4} {w : ReadWork} {phase : Phase} (hw : s.work tag = some w)
    (hwork : ∀ v, t.work v = if v = tag then some { w with phase := phase } else s.work v) (v : Fin 4) :
    t.aim v = s.aim v := by
  rw [State.aim, hwork, State.aim]
  split
  · rename_i hv
    rw [hv, hw]
    rfl
  · rfl

/-- The head of the send list leaves it, with its entry IN_FLIGHT (R27). -/
theorem State.SendLaw.sent (h : s.SendLaw) {tag : Fin 4} {rest : List (Fin 4)} {w : ReadWork}
    (hlist : s.reads.sendList = tag :: rest) (hphase : w.phase = .inFlight)
    (hwork : ∀ v, t.work v = if v = tag then some w else s.work v) (hrest : t.reads.sendList = rest) : t.SendLaw := by
  obtain ⟨hnodup, hmem⟩ := State.sendLaw_iff.mp h
  rw [hlist] at hnodup hmem
  obtain ⟨hnot, hnodup⟩ := List.nodup_cons.mp hnodup
  refine State.sendLaw_iff.mpr ⟨by rwa [hrest], fun v => ?_⟩
  rw [hrest, State.phase, hwork]
  by_cases hv : v = tag
  · rw [if_pos hv, Option.map_some, hphase, hv]
    exact iff_of_false hnot (by simp)
  · have hmem := hmem v
    rw [List.mem_cons, or_iff_right hv, State.phase] at hmem
    rw [if_neg hv, hmem]

namespace State.Tracked

theorem takeRead (h : s.Tracked) {tag : Fin 4} {rest : List (Fin 4)} (hlist : s.reads.sendList = tag :: rest) :
    (s.takeRead tag rest).Tracked := by
  unfold State.takeRead
  dsimp only
  split
  · rename_i w hw
    have hwork := s.work_setEntry tag
      { s.reads.entries[tag] with work := some { w with phase := .inFlight }, timer := s.startTimer }
    have hfades := State.Fades.of_dir (t := s.setEntry tag _) h.fill rfl (State.aim_rephased hw hwork)
    exact ⟨hfades.uniqueLaw h.unique, hfades.fillLaw h.fill, hfades.sweepLaw h.sweep rfl, h.send.sent hlist rfl hwork rfl⟩
  · exact h

theorem transmit (h : s.Tracked) : s.transmit.Tracked := by
  unfold State.transmit
  split
  · exact h
  · split
    · exact h
    · split
      · exact h.of_same rfl rfl rfl
      · split
        · rename_i hlist
          exact h.takeRead hlist
        · split
          · exact h.of_same (State.takeWrite_dir ..) (State.takeWrite_sweep ..) (State.takeWrite_reads ..)
          · split
            · exact h.of_same rfl rfl rfl
            · exact h

theorem resendRead (h : s.Tracked) {tag : Fin 4} {w : ReadWork} (hw : s.work tag = some w) (hphase : w.phase = .inFlight) :
    (s.resendRead tag w).Tracked := by
  have hwork : ∀ v, (s.resendRead tag w).work v = if v = tag then some { w with phase := .awaiting } else s.work v :=
    s.work_setEntry tag { s.reads.entries[tag] with
      work := some { w with phase := .awaiting }, issue := (s.reads.entries[tag]).issue + 1#2,
      retries := (s.reads.entries[tag]).retries + 1#3, timer := .stopped }
  have hfades := State.Fades.of_dir (t := s.resendRead tag w) h.fill rfl (State.aim_rephased hw hwork)
  exact ⟨hfades.uniqueLaw h.unique, hfades.fillLaw h.fill, hfades.sweepLaw h.sweep rfl,
    h.send.taken (by simp [State.phase, hw, hphase]) rfl hwork rfl⟩

end State.Tracked

/-! ## Sweeps, teardown and resets (R81, R83, R98, R175) -/

/-- A sweep start makes every entry wayless (R42). -/
theorem State.work_startSweep (h : s.sweep.isRunning = false) (tag : Fin 4) :
    s.startSweep.work tag = (s.work tag).map ReadWork.release := by
  rw [State.startSweep_idle h, funext ReadWork.release_eq]
  simp [State.work]

namespace State.Tracked

/-- Every FILLING way is released and every entry aims at nothing, as a sweep starts or goes on. -/
theorem of_released (h : s.Tracked) (hways : ∀ i w, t.way i w = if (s.way i w).isFilling then .invalid else s.way i w)
    (haims : ∀ tag, t.aim tag = none) (hsweep : t.sweep = if s.sweep.isRunning then s.sweep else .running 0#8)
    (hsend : t.SendLaw) : t.Tracked := by
  have hfades : s.Fades t := .of_released hways haims
  refine ⟨hfades.uniqueLaw h.unique, hfades.fillLaw h.fill, ?_, hsend⟩
  cases hrunning : s.sweep.isRunning with
  | true => exact hfades.sweepLaw h.sweep (by rw [hsweep, hrunning, if_pos rfl])
  | false =>
    intro p hp
    rw [hsweep, hrunning, if_neg Bool.false_ne_true] at hp
    obtain rfl : 0#8 = p := by cases hp; rfl
    refine ⟨fun i w => ?_, fun i w hi => absurd hi (by bv_omega)⟩
    have hway := hways i w
    split at hway
    · rw [show (t.dir.get i).ways[w] = .invalid from hway]
      rfl
    · rename_i hn
      rw [show (t.dir.get i).ways[w] = s.way i w from hway]
      exact Bool.not_eq_true _ ▸ hn

theorem startSweep (h : s.Tracked) : s.startSweep.Tracked := by
  cases hrunning : s.sweep.isRunning with
  | true => rwa [State.startSweep_running hrunning]
  | false =>
    have hreads := State.work_startSweep hrunning
    refine h.of_released (fun i w => ?_) (fun tag => ?_) s.startSweep_sweep
      (h.send.congr (State.startSweep_sendList s) fun tag => ?_)
    · have hset : s.startSweep.dir.get i = (s.dir.get i).releaseAll (Config.releaseRank s.freeCount i) := by
        rw [State.startSweep_idle hrunning]
        exact Directory.get_releaseAll ..
      rw [State.way, hset]
      exact (CacheSet.drops_releaseAll _ _).getElem (CacheSet.releaseAll_noFilling _ _) w
    · rw [State.aim, hreads]
      cases s.work tag with
      | none => rfl
      | some w => exact w.release_aim
    · rw [State.phase, hreads, State.phase]
      cases s.work tag with
      | none => rfl
      | some w => simp [ReadWork.release_eq]

theorem of_tornDown (h : s.Tracked) (torn : State.TornDown s t) : t.Tracked := by
  have hfree (tag : Fin 4) : t.work tag = none := (torn.entries tag).1
  refine h.of_released torn.ways (fun tag => State.aim_of_free (hfree tag)) torn.sweep (State.sendLaw_iff.mpr ?_)
  rw [torn.sendList]
  exact ⟨List.nodup_nil, fun tag => by simp [State.phase_of_free (hfree tag)]⟩

/-- The set at the sweep's position is cleared, in which no way is FILLING (R83, R85). -/
theorem stepSweep (h : s.Tracked) : s.stepSweep.Tracked := by
  unfold State.stepSweep
  split
  · rename_i p hp
    obtain ⟨hnone, hbelow⟩ := h.sweep p hp
    have hcleared (w : Fin 4) : (CacheSet.cleared.ways)[w] = .invalid := Vector.getElem_replicate w.isLt
    have hfades : s.Fades (s.onSet p fun _ => CacheSet.cleared) := .onSet h.fill p fun w => by
      rw [hcleared]
      exact .inr ⟨hnone p w, Way.settles_invalid _⟩
    have hunique := hfades.uniqueLaw h.unique
    have hfill := hfades.fillLaw h.fill
    dsimp only
    split
    · exact ⟨hunique, hfill, .of_idle rfl, h.send⟩
    · rename_i hlast
      refine ⟨hunique, hfill, fun q hq => ?_, h.send⟩
      obtain rfl : p + 1#8 = q := by cases hq; rfl
      refine ⟨hfades.noFilling hnone, fun i w hi => ?_⟩
      refine (State.way_onSet s p i (fun _ => CacheSet.cleared) w).trans ?_
      split
      · exact hcleared w
      · exact hbelow i w (by bv_omega)
  · exact h

theorem of_cleared (h : t.Cleared) : t.Tracked := by
  have hway (i : SetIndex) (w : Fin 4) : t.way i w = .invalid := by
    rw [State.way, h.sets]
    exact Vector.getElem_replicate w.isLt
  have hfree (tag : Fin 4) : t.work tag = none := (h.entries tag).1
  refine ⟨fun i v w g hv _ => ?_, State.fillLaw_iff.mpr ⟨fun i w g ref hw => ?_, fun tag line x hx => ?_⟩,
    .of_idle h.sweepState, State.sendLaw_iff.mpr ?_⟩
  · replace hv : (t.way i v).tag? = some g := hv
    rw [hway] at hv
    cases hv
  · rw [hway] at hw
    cases hw
  · rw [State.aim_of_free (hfree tag)] at hx
    cases hx
  · rw [h.sendList]
    exact ⟨List.nodup_nil, fun tag => by simp [State.phase_of_free (hfree tag)]⟩

end State.Tracked

end Sys2Proof.Machine
end

section
/-! SUPPORT. The bus interface and what it waits on: how many entries have a waiter, how many have none and how many are FREE
(R26, R28), and the laws of the bus interface as predicates of those counts, of the entries' duties and of the write entries'
manners (R126). -/

namespace Sys2Proof.Machine

variable {s t : State}

/-! ## Counts over the four entries (R25) -/

/-- A change at one tag changes a count over the four tags by that tag's part. -/
theorem countP_finRange_change {p q : Fin 4 → Bool} {tag : Fin 4} (h : ∀ v, v ≠ tag → q v = p v) :
    (List.finRange 4).countP q + (p tag).toNat = (List.finRange 4).countP p + (q tag).toNat := by
  have hperm := List.perm_cons_erase (List.mem_finRange tag)
  have hrest : ((List.finRange 4).erase tag).countP q = ((List.finRange 4).erase tag).countP p :=
    List.countP_congr fun v hv => by rw [h v ((List.nodup_finRange 4).mem_erase_iff.mp hv).1]
  rw [hperm.countP_eq, hperm.countP_eq, List.countP_cons, List.countP_cons, hrest]
  cases p tag <;> cases q tag <;> simp

theorem State.toList_entries (s : State) :
    s.reads.entries.toList = (List.finRange 4).map fun tag => s.reads.entries[tag] := by
  apply List.ext_getElem <;> simp

theorem State.waiters_eq (s : State) :
    s.waiters = (List.finRange 4).countP fun tag => (s.work tag).any ReadWork.waiter := by
  rw [State.waiters, State.toList_entries, List.countP_map]
  refine List.countP_congr fun tag _ => ?_
  simp only [Function.comp, State.work]
  cases (s.reads.entries[tag]).work <;> rfl

theorem State.unwaited_eq (s : State) :
    s.unwaited = (List.finRange 4).countP fun tag => (s.work tag).any fun w => !w.waiter := by
  rw [State.unwaited, State.toList_entries, List.countP_map]
  refine List.countP_congr fun tag _ => ?_
  simp only [Function.comp, State.work]
  cases (s.reads.entries[tag]).work <;> rfl

theorem State.freeEntries_eq (s : State) : s.freeEntries = (List.finRange 4).countP fun tag => (s.work tag).isNone :=
  List.countP_eq_length_filter.symm

/-- Each of the four entries has a waiter, has none, or is FREE. -/
theorem State.counts (s : State) : s.waiters + s.unwaited + s.freeEntries = 4 := by
  have hsplit (l : List (Fin 4)) : (l.countP fun tag => (s.work tag).any ReadWork.waiter) +
      (l.countP fun tag => (s.work tag).any fun w => !w.waiter) + (l.countP fun tag => (s.work tag).isNone) = l.length := by
    induction l with
    | nil => rfl
    | cons tag l ih =>
      simp only [List.countP_cons, List.length_cons]
      cases hw : s.work tag with
      | none => simp; omega
      | some w => cases hwaiter : w.waiter <;> simp [hwaiter] <;> omega
  rw [State.waiters_eq, State.unwaited_eq, State.freeEntries_eq, hsplit, List.length_finRange]

theorem State.waiters_change {tag : Fin 4} (h : ∀ v, v ≠ tag → t.work v = s.work v) :
    t.waiters + ((s.work tag).any ReadWork.waiter).toNat = s.waiters + ((t.work tag).any ReadWork.waiter).toNat := by
  rw [State.waiters_eq, State.waiters_eq]
  exact countP_finRange_change (p := fun v => (s.work v).any ReadWork.waiter)
    (q := fun v => (t.work v).any ReadWork.waiter) fun v hv => by rw [h v hv]

theorem State.unwaited_change {tag : Fin 4} (h : ∀ v, v ≠ tag → t.work v = s.work v) :
    t.unwaited + ((s.work tag).any fun w => !w.waiter).toNat =
      s.unwaited + ((t.work tag).any fun w => !w.waiter).toNat := by
  rw [State.unwaited_eq, State.unwaited_eq]
  exact countP_finRange_change (p := fun v => (s.work v).any fun w => !w.waiter)
    (q := fun v => (t.work v).any fun w => !w.waiter) fun v hv => by rw [h v hv]

theorem State.waiter_of_waiters (h : s.waiters = 0) {tag : Fin 4} {w : ReadWork} (hw : s.work tag = some w) :
    w.waiter = false := by
  rw [State.waiters_eq, List.countP_eq_zero] at h
  simpa [hw] using h tag (List.mem_finRange tag)

theorem State.waiters_of_waiter (h : ∀ tag w, s.work tag = some w → w.waiter = false) : s.waiters = 0 := by
  rw [State.waiters_eq, List.countP_eq_zero]
  intro tag _
  cases hw : s.work tag with
  | none => simp
  | some w => simp [h tag w hw]

theorem State.freeEntry_isSome (h : 0 < s.freeEntries) : ∃ tag, s.freeEntry = some tag := by
  rw [State.freeEntries_eq, List.countP_pos_iff] at h
  obtain ⟨tag, hmem, hfree⟩ := h
  exact Option.isSome_iff_exists.mp (List.find?_isSome.mpr ⟨tag, hmem, hfree⟩)

/-! ## Duties of the read entries (R26) -/

/-- Whether a work has its waiter, and what it asks. -/
def ReadWork.duty (w : ReadWork) : Bool × Request := (w.waiter, w.request.wayless)

/-- The duty of one entry, if it is OUTSTANDING. -/
def State.duty (s : State) (tag : Fin 4) : Option (Bool × Request) := (s.work tag).map ReadWork.duty

/-- What the law of the waiters asks of one entry: its waiter is there when its purpose or its kind says so, and the pending
access is for what the entry asks (R26). -/
def Request.Served (access : Option Access) (waiter : Bool) : Request → Prop
  | .line block p _ => (waiter = true → ∃ a, access = some a ∧ block = lineOf a.remote) ∧ (waiter = true ↔ p = .demand)
  | .word addr size => waiter = true ∧ ∃ a, access = some a ∧ a.remote = addr ∧ a.size = size

theorem Request.served_wayless (access : Option Access) (waiter : Bool) (r : Request) :
    r.wayless.Served access waiter ↔ r.Served access waiter := by
  cases r <;> rfl

theorem State.waiterLaw_iff : s.WaiterLaw ↔
    (∀ tag w, s.work tag = some w → w.request.Served s.bus.access w.waiter) ∧ s.unwaited ≤ 2 := by
  refine and_congr_left fun _ => forall_congr' fun tag => forall_congr' fun w => imp_congr_right fun _ => ?_
  cases hr : w.request with
  | line line p target => rfl
  | word addr size =>
    refine ⟨And.right, fun h => ⟨fun _ => ?_, h⟩⟩
    obtain ⟨-, a, ha, hremote, -⟩ := h
    exact ⟨a, ha, congrArg lineOf hremote.symm⟩

/-- No entry has a waiter, so every OUTSTANDING one is a prefetch, of which there are at most two (R26, R28). -/
structure State.Unattended (s : State) : Prop where
  served : ∀ tag w, s.work tag = some w → w.request.Served none w.waiter
  few : s.unwaited ≤ 2

theorem Request.Served.unattended {r : Request} {access : Option Access} (h : r.Served access false) : r.Served none false := by
  cases r with
  | line line p target => exact ⟨fun hn => (by cases hn), h.2⟩
  | word addr size => cases h.1

theorem Request.Served.not_waiter {r : Request} {waiter : Bool} (h : r.Served none waiter) : waiter = false := by
  cases waiter with
  | false => rfl
  | true =>
    cases r with
    | line line p target =>
      obtain ⟨a, ha, -⟩ := h.1 rfl
      cases ha
    | word addr size =>
      obtain ⟨-, a, ha, -⟩ := h
      cases ha

/-- Without a waiter the pending access does not matter. -/
theorem Request.Served.any_access {r : Request} (h : r.Served none false) (access : Option Access) :
    r.Served access false := by
  cases r with
  | line line p target => exact ⟨fun hn => (by cases hn), h.2⟩
  | word addr size => cases h.1

namespace State.Unattended

theorem waiter (h : s.Unattended) {tag : Fin 4} {w : ReadWork} (hw : s.work tag = some w) : w.waiter = false :=
  (h.served tag w hw).not_waiter

theorem waiters (h : s.Unattended) : s.waiters = 0 := State.waiters_of_waiter fun _ _ hw => h.waiter hw

theorem waiterLaw (h : s.Unattended) : s.WaiterLaw := by
  refine State.waiterLaw_iff.mpr ⟨fun tag w hw => ?_, h.few⟩
  have hserved := h.served tag w hw
  rw [h.waiter hw] at hserved ⊢
  exact hserved.any_access _

/-- R28's prefetch conditions leave an entry for a read: two of the four, when no entry has a waiter. -/
theorem freeEntry (h : s.Unattended) : ∃ tag, s.freeEntry = some tag := by
  have hcounts := s.counts
  have hwaiters := h.waiters
  have hfew := h.few
  exact State.freeEntry_isSome (by omega)

theorem of_waiterLaw (h : s.WaiterLaw) (hwaiters : s.waiters = 0) : s.Unattended := by
  obtain ⟨hserved, hfew⟩ := State.waiterLaw_iff.mp h
  refine ⟨fun tag w hw => ?_, hfew⟩
  have hw' := hserved tag w hw
  rw [State.waiter_of_waiters hwaiters hw] at hw' ⊢
  exact hw'.unattended

end State.Unattended

theorem State.waiters_congr (h : ∀ tag, t.duty tag = s.duty tag) : t.waiters = s.waiters := by
  rw [State.waiters_eq, State.waiters_eq]
  refine List.countP_congr fun tag _ => ?_
  have hduty := congrArg (Option.any Prod.fst) (h tag)
  rw [State.duty, State.duty, Option.any_map, Option.any_map] at hduty
  exact iff_of_eq (congrArg (· = true) hduty)

theorem State.unwaited_congr (h : ∀ tag, t.duty tag = s.duty tag) : t.unwaited = s.unwaited := by
  rw [State.unwaited_eq, State.unwaited_eq]
  refine List.countP_congr fun tag _ => ?_
  have hduty := congrArg (Option.any fun d => !d.1) (h tag)
  rw [State.duty, State.duty, Option.any_map, Option.any_map] at hduty
  exact iff_of_eq (congrArg (· = true) hduty)

theorem State.served_congr {access : Option Access} (h : ∀ tag, t.duty tag = s.duty tag)
    (hs : ∀ tag w, s.work tag = some w → w.request.Served access w.waiter) (tag : Fin 4) (w : ReadWork)
    (hw : t.work tag = some w) : w.request.Served access w.waiter := by
  have hduty := h tag
  rw [State.duty, hw, Option.map_some, State.duty, eq_comm, Option.map_eq_some_iff] at hduty
  obtain ⟨w', hw', hsame⟩ := hduty
  obtain ⟨hwaiter, hrequest⟩ := Prod.mk.inj hsame
  have hserved := (Request.served_wayless _ _ _).mpr (hs tag w' hw')
  rw [hrequest, hwaiter] at hserved
  exact (Request.served_wayless _ _ _).mp hserved

theorem State.Unattended.congr (hs : s.Unattended) (h : ∀ tag, t.duty tag = s.duty tag) : t.Unattended :=
  ⟨State.served_congr h hs.served, by rw [State.unwaited_congr h]; exact hs.few⟩

theorem State.duty_congr {tag : Fin 4} (h : t.work tag = s.work tag) : t.duty tag = s.duty tag := by
  rw [State.duty, h, State.duty]

/-! ## Manners of the write entries (R65) -/

/-- Whether a write entry is posted, and whether it is closed. -/
def WriteEntry.manner (e : WriteEntry) : Bool × Bool := (e.posted, e.closed)

/-- The manners of the queue's entries, oldest first. -/
def State.manners (s : State) : List (Bool × Bool) := s.wq.entries.map WriteEntry.manner

/-- How many of the entries are non-posted (R65). -/
def unposted (manners : List (Bool × Bool)) : Nat := manners.countP fun m => !m.1

theorem State.nonPosted_eq (s : State) : s.nonPosted = unposted s.manners := by
  rw [unposted, State.manners, List.countP_map]
  rfl

/-- A pending access waits on one thing, and that thing is there (R126). -/
def Access.Waits (a : Access) (waiters : Nat) (manners : List (Bool × Bool)) : Prop :=
  match a.wait with
  | .entryDone => a.direction = .read ∧ waiters = 1 ∧ unposted manners = 0
  | .freeEntry => False
  | .queueEmpty => a.direction = .read ∧ waiters = 0 ∧ unposted manners = 0 ∧ manners ≠ []
  | .queueSpace => a.direction ≠ .read ∧ waiters = 0 ∧ unposted manners = 0 ∧ manners.length = 8
  | .entryRemoved =>
    a.direction ≠ .read ∧ waiters = 0 ∧ unposted manners = 1 ∧ manners.getLast? = some (false, true)

theorem State.busLaw_iff_none (h : s.bus.access = none) : s.BusLaw ↔ s.waiters = 0 ∧ unposted s.manners = 0 := by
  rw [State.BusLaw, h, State.nonPosted_eq]

theorem State.busLaw_iff_some {a : Access} (h : s.bus.access = some a) : s.BusLaw ↔ a.Waits s.waiters s.manners := by
  have hlast : (∃ y, s.wq.entries.getLast? = some y ∧ y.posted = false ∧ y.closed = true) ↔
      s.manners.getLast? = some (false, true) := by
    simp [State.manners, WriteEntry.manner, List.getLast?_map, Option.map_eq_some_iff]
  rw [State.BusLaw, h, Access.Waits, State.nonPosted_eq]
  dsimp only
  generalize a.wait = wait
  cases wait with
  | entryDone => rfl
  | freeEntry => rfl
  | queueEmpty => simp [State.manners]
  | queueSpace => simp [State.manners]
  | entryRemoved => simp only [hlast]

/-! ## The laws of the bus interface together -/

/-- The law of the bus interface and that of the waiters. -/
structure State.Attended (s : State) : Prop where
  bus : s.BusLaw
  waiters : s.WaiterLaw

namespace State.Attended

theorem congr (h : s.Attended) (haccess : t.bus.access = s.bus.access) (hduty : ∀ tag, t.duty tag = s.duty tag)
    (hmanners : t.manners = s.manners) : t.Attended := by
  obtain ⟨hserved, hfew⟩ := State.waiterLaw_iff.mp h.waiters
  refine ⟨?_, State.waiterLaw_iff.mpr ⟨?_, by rwa [State.unwaited_congr hduty]⟩⟩
  · cases ha : s.bus.access with
    | none =>
      rw [State.busLaw_iff_none (haccess.trans ha), State.waiters_congr hduty, hmanners]
      exact (State.busLaw_iff_none ha).mp h.bus
    | some a =>
      rw [State.busLaw_iff_some (haccess.trans ha), State.waiters_congr hduty, hmanners]
      exact (State.busLaw_iff_some ha).mp h.bus
  · rw [haccess]
    exact State.served_congr hduty hserved

theorem of_same (h : s.Attended) (haccess : t.bus.access = s.bus.access) (hreads : t.reads = s.reads)
    (hentries : t.wq.entries = s.wq.entries) : t.Attended :=
  h.congr haccess (fun tag => State.duty_congr (State.work_congr (by rw [hreads]) tag))
    (by rw [State.manners, hentries, State.manners])

/-- No access is pending, and no entry has a waiter or is non-posted. -/
theorem of_idle (h : t.Unattended) (haccess : t.bus.access = none) (hposted : unposted t.manners = 0) : t.Attended :=
  ⟨(State.busLaw_iff_none haccess).mpr ⟨h.waiters, hposted⟩, h.waiterLaw⟩

/-- An access waits on the write queue. -/
theorem of_waiting (h : t.Unattended) {a : Access} (haccess : t.bus.access = some a) (hwaits : a.Waits 0 t.manners) :
    t.Attended :=
  ⟨(State.busLaw_iff_some haccess).mpr (by rwa [h.waiters]), h.waiterLaw⟩

/-- With no access pending nothing is attended. -/
theorem unattended (h : s.Attended) (haccess : s.bus.access = none) : s.Unattended :=
  .of_waiterLaw h.waiters ((State.busLaw_iff_none haccess).mp h.bus).1

theorem posted (h : s.Attended) (haccess : s.bus.access = none) : unposted s.manners = 0 :=
  ((State.busLaw_iff_none haccess).mp h.bus).2

theorem waits (h : s.Attended) {a : Access} (haccess : s.bus.access = some a) : a.Waits s.waiters s.manners :=
  (State.busLaw_iff_some haccess).mp h.bus

theorem not_freeEntry (h : s.Attended) {a : Access} (haccess : s.bus.access = some a) : a.wait ≠ .freeEntry := by
  intro hwait
  have hwaits := h.waits haccess
  rw [Access.Waits, hwait] at hwaits
  exact hwaits

end State.Attended

end Sys2Proof.Machine
end

section
/-! SUPPORT. The laws of the bus interface along the path of a read and of a write, and at the end of what an access waits for
(R26, R28, R65, R126). -/

namespace Sys2Proof.Machine

variable {s t : State}

/-- A line address is its set index and its tag (R1). -/
theorem lineAddr_ext {a b : LineAddr} (hset : setOf a = setOf b) (htag : tagOf a = tagOf b) : a = b := by
  have hset' := congrArg BitVec.toNat hset
  have htag' := congrArg BitVec.toNat htag
  simp only [setOf, tagOf, BitVec.extractLsb'_toNat, Nat.shiftRight_eq_div_pow] at hset' htag'
  exact BitVec.eq_of_toNat_eq (by omega)

/-- The entry that a FILLING way for a line names is an OUTSTANDING fill of that line (R10). -/
theorem State.FillLaw.aim_of_filling (fill : s.FillLaw) {line : LineAddr} {w ref : Fin 4}
    (h : s.way (setOf line) w = .filling (tagOf line) ref) : s.aim ref = some (line, ⟨setOf line, w⟩) := by
  obtain ⟨hways, haims⟩ := State.fillLaw_iff.mp fill
  obtain ⟨line', haim⟩ := hways _ _ _ _ h
  obtain ⟨hset, hway⟩ := haims _ _ _ haim
  rw [h] at hway
  have hline : line' = line := (lineAddr_ext hset (Way.filling.inj hway).1).symm
  rw [haim, hline]

namespace State.Attended

/-! ## An access that waits on its entry (R26, R135, R136) -/

/-- The entry of an unattended table that a change gives a waiter is the pending read's. -/
theorem of_taken (h : s.Unattended) {tag : Fin 4} {w : ReadWork} {a : Access} (hothers : ∀ v, v ≠ tag → t.work v = s.work v)
    (hw : t.work tag = some w) (hwaiter : w.waiter = true) (hserved : w.request.Served (some a) true)
    (haccess : t.bus.access = some a) (hwait : a.wait = .entryDone) (hread : a.direction = .read)
    (hposted : unposted t.manners = 0) : t.Attended := by
  have hbefore : (s.work tag).any ReadWork.waiter = false := by
    cases hw' : s.work tag with
    | none => rfl
    | some w' => exact h.waiter hw'
  have hwaiters := State.waiters_change hothers
  have hunwaited := State.unwaited_change hothers
  simp only [hw, hbefore, Option.any_some, hwaiter, h.waiters] at hwaiters
  simp only [hw, Option.any_some, hwaiter, Bool.not_true, Bool.toNat_false] at hunwaited
  have hfew := h.few
  refine ⟨(State.busLaw_iff_some haccess).mpr ?_, State.waiterLaw_iff.mpr ⟨fun v w' hw' => ?_, by omega⟩⟩
  · rw [Access.Waits, hwait]
    exact ⟨hread, hwaiters, hposted⟩
  · rw [haccess]
    by_cases hv : v = tag
    · subst hv
      obtain rfl := Option.some.inj (hw.symm.trans hw')
      rwa [hwaiter]
    · rw [hothers v hv] at hw'
      have hserved' := h.served v w' hw'
      rw [h.waiter hw'] at hserved' ⊢
      exact hserved'.any_access _

/-- One more entry is taken without a waiter, while two are FREE and one has its waiter (R28, R31). -/
theorem of_prefetched (h : s.Attended) {tag : Fin 4} {w : ReadWork} (hfree : s.work tag = none) (htwo : 2 ≤ s.freeEntries)
    (hserved : w.request.Served none w.waiter) (hone : s.waiters = 1)
    (hwork : ∀ v, t.work v = if v = tag then some w else s.work v) (haccess : t.bus.access = s.bus.access)
    (hmanners : t.manners = s.manners) : t.Attended := by
  have hwaiter := hserved.not_waiter
  have hothers (v : Fin 4) (hv : v ≠ tag) : t.work v = s.work v := by rw [hwork, if_neg hv]
  have hw : t.work tag = some w := by rw [hwork, if_pos rfl]
  have hwaiters := State.waiters_change hothers
  have hunwaited := State.unwaited_change hothers
  have hcounts := s.counts
  simp only [hw, hfree, Option.any_some, Option.any_none, hwaiter, Bool.not_false, Bool.toNat_false, Bool.toNat_true,
    Nat.add_zero] at hwaiters hunwaited
  obtain ⟨hserveds, -⟩ := State.waiterLaw_iff.mp h.waiters
  refine ⟨?_, State.waiterLaw_iff.mpr ⟨fun v w' hw' => ?_, by omega⟩⟩
  · cases ha : s.bus.access with
    | none => exact absurd ((State.busLaw_iff_none ha).mp h.bus).1 (by omega)
    | some a =>
      rw [State.busLaw_iff_some (haccess.trans ha), hwaiters, hmanners]
      exact h.waits ha
  · rw [haccess]
    by_cases hv : v = tag
    · subst hv
      obtain rfl := Option.some.inj (hw.symm.trans hw')
      rw [hwaiter] at hserved ⊢
      exact hserved.any_access _
    · exact hserveds v w' ((hothers v hv).symm.trans hw')

end State.Attended

/-- What the consideration of a prefetch makes of the entries: nothing, or one FREE entry of two taken without a waiter. -/
theorem State.considerPrefetch_work (a : Access) (s : State) :
    (∀ v, (s.considerPrefetch a).work v = s.work v) ∨
      ∃ tag w, s.work tag = none ∧ 2 ≤ s.freeEntries ∧ w.request.Served none w.waiter ∧
        ∀ v, (s.considerPrefetch a).work v = if v = tag then some w else s.work v := by
  unfold State.considerPrefetch
  split
  · rename_i hwanted
    split
    · rename_i tag hfree
      obtain ⟨-, -, -, -, -, htwo⟩ := (State.wantsPrefetch_iff a).mp hwanted
      refine .inr ⟨tag, _, State.work_of_freeEntry hfree, State.two_le_freeEntries.mpr htwo, ?_, fun v =>
        (State.work_claim ..).trans (State.work_takeEntry ..)⟩
      exact ⟨fun h => (by cases h), by simp⟩
    · exact .inl fun _ => rfl
  · exact .inl fun _ => rfl

theorem State.manners_congr (h : t.wq = s.wq) : t.manners = s.manners := by
  rw [State.manners, h, State.manners]

namespace State.Unattended

/-! ## The path of a read (R132 to R136) -/

variable {a : Access}

theorem readMiss (h : s.Unattended) (victim : Option (Fin 4)) (hread : a.direction = .read)
    (hposted : unposted s.manners = 0) : (s.readMiss a victim).Attended := by
  obtain ⟨tag, hfree⟩ := h.freeEntry
  simp only [State.readMiss, hfree]
  let taken := s.takeLine tag (lineOf a.remote) .demand a.window true victim
  have hwork (v : Fin 4) : taken.work v = if v = tag then some _ else s.work v :=
    (State.work_claim ..).trans (State.work_takeEntry ..)
  have htaken : (taken.setAccess { a with wait := .entryDone }).Attended := by
    refine .of_taken (tag := tag) (a := { a with wait := .entryDone }) h (fun v hv => (hwork v).trans (if_neg hv))
      ((hwork tag).trans (if_pos rfl)) rfl ⟨fun _ => ⟨_, rfl, rfl⟩, by simp⟩ rfl rfl hread ?_
    rwa [State.manners_congr (t := taken.setAccess _) (s := s) (State.takeLine_wq ..)]
  have haccess : ((taken.considerPrefetch a).setAccess { a with wait := .entryDone }).bus.access =
      (taken.setAccess { a with wait := .entryDone }).bus.access := rfl
  have hmanners : ((taken.considerPrefetch a).setAccess { a with wait := .entryDone }).manners =
      (taken.setAccess { a with wait := .entryDone }).manners := State.manners_congr (State.considerPrefetch_wq ..)
  obtain hsame | ⟨tag', w, hfree', htwo, hserved, hwork'⟩ := taken.considerPrefetch_work a
  · exact htaken.congr haccess (fun v => State.duty_congr (hsame v)) hmanners
  · exact htaken.of_prefetched hfree' htwo hserved (htaken.waits rfl).2.1 hwork' haccess hmanners

theorem readWord (h : s.Unattended) (hread : a.direction = .read) (hposted : unposted s.manners = 0) :
    (s.readWord a).Attended := by
  obtain ⟨tag, hfree⟩ := h.freeEntry
  simp only [State.readWord, hfree]
  have hwork (v : Fin 4) := s.work_takeEntry tag ⟨.word a.remote a.size, a.window, .awaiting, true⟩ v
  exact .of_taken (tag := tag) (a := { a with wait := .entryDone }) h (fun v hv => (hwork v).trans (if_neg hv))
    ((hwork tag).trans (if_pos rfl)) rfl ⟨rfl, _, rfl, rfl, rfl⟩ rfl rfl hread hposted

/-- A demand joins the fill that its line's FILLING way names (R30). -/
theorem join (h : s.Unattended) (fill : s.FillLaw) {w ref : Fin 4} (hread : a.direction = .read)
    (hposted : unposted s.manners = 0) (hway : s.way (setOf (lineOf a.remote)) w = .filling (tagOf (lineOf a.remote)) ref) :
    ((s.setEntry ref ((s.reads.entries[ref]).onWork (ReadWork.join a.window))).setAccess
      { a with wait := .entryDone }).Attended := by
  obtain ⟨work, p, hw, hrequest⟩ := State.aim_eq_some.mp (fill.aim_of_filling hway)
  have hwork (v : Fin 4) := s.work_setEntry ref ((s.reads.entries[ref]).onWork (ReadWork.join a.window)) v
  have hjoined : ((s.reads.entries[ref]).onWork (ReadWork.join a.window)).work = some (work.join a.window) :=
    congrArg (Option.map (ReadWork.join a.window)) hw
  refine .of_taken (tag := ref) (a := { a with wait := .entryDone }) h (fun v hv => (hwork v).trans (if_neg hv))
    ((hwork ref).trans ((if_pos rfl).trans hjoined)) ?_ ?_ rfl rfl hread hposted
  · rw [ReadWork.join, hrequest]
  · rw [ReadWork.join, hrequest]
    exact ⟨fun _ => ⟨_, rfl, rfl⟩, by simp⟩

theorem readLookup (h : s.Unattended) (fill : s.FillLaw) (counted : Bool) (hread : a.direction = .read)
    (hposted : unposted s.manners = 0) : (s.readLookup counted a).Attended := by
  have hwork (n : CounterName) (v : Fin 4) : (s.bumpIf counted n).work v = s.work v :=
    State.work_congr (by rw [State.bumpIf_reads]) v
  have hbump (n : CounterName) : (s.bumpIf counted n).Unattended := h.congr fun v => State.duty_congr (hwork n v)
  have hmanners (n : CounterName) : unposted (s.bumpIf counted n).manners = 0 := by
    rwa [State.manners_congr (State.bumpIf_wq ..)]
  unfold State.readLookup
  obtain ⟨w, data, hlookup, -⟩ | ⟨w, ref, hlookup, -, hway⟩ | ⟨hlookup, -⟩ := s.lookup_cases (lineOf a.remote)
  · rw [hlookup]
    exact .of_idle ((hbump .hits).congr fun _ => rfl) rfl (hmanners .hits)
  · rw [hlookup]
    have hjoined := (h.join fill hread hposted hway).congr
      (t := ((s.bumpIf counted .misses).setEntry ref
        ((s.reads.entries[ref]).onWork (ReadWork.join a.window))).setAccess { a with wait := .entryDone }) rfl
    refine hjoined (fun v => State.duty_congr ?_) (State.manners_congr (State.bumpIf_wq ..))
    refine ((State.work_setEntry _ ref _ v).trans ?_).trans (State.work_setEntry s ref _ v).symm
    rw [hwork]
  · rw [hlookup]
    exact (hbump .misses).readMiss _ hread (hmanners .misses)

/-- A dispatched read ends at once or waits on its entry: an entry is always there for it (R126). -/
theorem dispatchRead (h : s.Unattended) (fill : s.FillLaw) (counted : Bool) (hread : a.direction = .read)
    (hposted : unposted s.manners = 0) : (s.dispatchRead counted a).Attended := by
  unfold State.dispatchRead
  split
  · exact h.readLookup fill counted hread hposted
  · exact h.readWord hread hposted

theorem startRead (h : s.Unattended) (fill : s.FillLaw) (hread : a.direction = .read) (hposted : unposted s.manners = 0) :
    (s.startRead a).Attended := by
  unfold State.startRead
  split
  · rename_i hwaits
    refine .of_waiting (a := { a with wait := .queueEmpty }) (h.congr fun _ => rfl) rfl ⟨hread, rfl, hposted, ?_⟩
    rw [Bool.and_eq_true, Bool.not_eq_true', ← Bool.not_eq_true, List.isEmpty_iff] at hwaits
    simpa [State.manners] using hwaits.2
  · exact h.dispatchRead fill true hread hposted

end State.Unattended

end Sys2Proof.Machine
end

section
/-! SUPPORT. The laws of the bus interface at a write, at an answered entry, at an acknowledgement, and under the changes that
neither attend an access nor end one (R50 to R53, R58, R65, R126). -/

namespace Sys2Proof.Machine

variable {s t : State}

/-! ## The path of a write (R50 to R53) -/

/-- A taken write merges into a posted entry, or stands last, closed if it is non-posted (R51, R52). -/
theorem WriteQueue.take_manners {a : Access} {q q' : WriteQueue} (h : q.take a = some q') :
    a.isPosted = true ∧ q'.entries.map WriteEntry.manner = q.entries.map WriteEntry.manner ∨
      q'.entries.map WriteEntry.manner = q.entries.map WriteEntry.manner ++ [(a.isPosted, !a.isPosted)] := by
  unfold WriteQueue.take at h
  split at h
  · rename_i y hy
    split at h
    · rename_i haccepts
      cases h
      refine .inl ⟨?_, ?_⟩
      · simp only [WriteEntry.accepts, Bool.and_eq_true] at haccepts
        exact haccepts.2
      · conv => rhs; rw [← List.dropLast_append_getLast? y hy]
        simp [WriteEntry.manner]
    · split at h
      · cases h
        exact .inr (by simp [WriteEntry.manner, Access.entry])
      · cases h
  · rename_i hnone
    cases h
    exact .inr (by simp [WriteEntry.manner, Access.entry, List.getLast?_eq_none_iff.mp hnone])

theorem WriteQueue.length_of_take_none {a : Access} {q : WriteQueue} (h : q.take a = none) : 8 ≤ q.entries.length := by
  unfold WriteQueue.take at h
  split at h
  · split at h
    · cases h
    · split at h
      · cases h
      · omega
  · cases h

theorem unposted_append (l : List (Bool × Bool)) (m : Bool × Bool) : unposted (l ++ [m]) = unposted l + (!m.1).toNat := by
  obtain ⟨posted, closed⟩ := m
  cases posted <;> simp [unposted]

/-- A presented write ends, or waits for space in a full queue, or for its own entry (R50, R53, R65). -/
theorem State.Unattended.presentWrite (h : s.Unattended) {a : Access} (hwrite : a.direction ≠ .read)
    (hposted : unposted s.manners = 0) (hlength : s.wq.entries.length ≤ 8) : (s.presentWrite a).Attended := by
  unfold State.presentWrite
  split
  · rename_i q htake
    let seen := { s with wq := q }.directorySeesWrite a.attrs.cacheable (lineOf a.remote) a.bytes
    have hseen : seen.Unattended := h.congr fun v => State.duty_congr (State.work_congr (by
      rw [State.directorySeesWrite_reads]) v)
    have hmanners : seen.manners = q.entries.map WriteEntry.manner := by rw [State.manners, State.directorySeesWrite_wq]
    have hcases := WriteQueue.take_manners htake
    rw [← hmanners] at hcases
    dsimp only
    split
    · rename_i hpost
      refine .of_idle (hseen.congr fun _ => rfl) rfl ?_
      rcases hcases with ⟨-, hsame⟩ | happend
      · exact (congrArg unposted hsame).trans hposted
      · refine (congrArg unposted happend).trans ?_
        rw [unposted_append, hpost]
        exact hposted
    · rename_i hpost
      rw [Bool.not_eq_true] at hpost
      obtain ⟨hpost', -⟩ | happend := hcases
      · rw [hpost] at hpost'
        cases hpost'
      · rw [hpost] at happend
        refine .of_waiting (a := { a with wait := .entryRemoved }) (hseen.congr fun _ => rfl) rfl ⟨hwrite, rfl, ?_, ?_⟩
        · refine (congrArg unposted happend).trans ?_
          rw [unposted_append]
          exact congrArg (· + 1) hposted
        · refine (congrArg List.getLast? happend).trans ?_
          rw [List.getLast?_append_of_ne_nil _ (List.cons_ne_nil _ _)]
          rfl
  · rename_i htake
    have hfull := WriteQueue.length_of_take_none htake
    refine .of_waiting (a := { a with wait := .queueSpace }) (h.congr fun _ => rfl) rfl ⟨hwrite, rfl, hposted, ?_⟩
    simp only [State.manners, State.setAccess_wq, List.length_map]
    omega

/-- With a waiter present the access waits on its entry, and no write entry is non-posted (R26, R65). -/
theorem Access.Waits.attended {a : Access} {n : Nat} {manners : List (Bool × Bool)} (h : a.Waits n manners) (hn : n ≠ 0) :
    n = 1 ∧ unposted manners = 0 := by
  unfold Access.Waits at h
  split at h
  · exact h.2
  · exact h.elim
  all_goals exact absurd h.2.1 hn

namespace State.Attended

/-! ## The end of an answered entry (R34, R37) -/

/-- An OUTSTANDING entry ends, and with it its waiter's access. -/
theorem answered (h : s.Attended) {tag : Fin 4} {w : ReadWork} (hw : s.work tag = some w)
    (hwork : ∀ v, t.work v = if v = tag then none else s.work v)
    (haccess : t.bus.access = if w.waiter then none else s.bus.access) (hmanners : t.manners = s.manners) :
    t.Attended := by
  have hothers (v : Fin 4) (hv : v ≠ tag) : t.work v = s.work v := by rw [hwork, if_neg hv]
  have hfree : t.work tag = none := by rw [hwork, if_pos rfl]
  have hkept (v : Fin 4) (w' : ReadWork) (hw' : t.work v = some w') : s.work v = some w' := by
    rw [hwork] at hw'
    split at hw'
    · cases hw'
    · exact hw'
  obtain ⟨hserved, hfew⟩ := State.waiterLaw_iff.mp h.waiters
  have hwaiters := State.waiters_change hothers
  have hunwaited := State.unwaited_change hothers
  simp only [hw, hfree, Option.any_some, Option.any_none, Bool.toNat_false, Nat.add_zero] at hwaiters hunwaited
  have hlaw : (∀ v w', t.work v = some w' → w'.request.Served t.bus.access w'.waiter) → t.WaiterLaw := fun hs =>
    State.waiterLaw_iff.mpr ⟨hs, by omega⟩
  cases hwaiter : w.waiter with
  | false =>
    rw [hwaiter, if_neg Bool.false_ne_true] at haccess
    rw [hwaiter, Bool.toNat_false, Nat.add_zero] at hwaiters
    refine ⟨?_, hlaw fun v w' hw' => ?_⟩
    · cases ha : s.bus.access with
      | none =>
        rw [State.busLaw_iff_none (haccess.trans ha), hwaiters, hmanners]
        exact (State.busLaw_iff_none ha).mp h.bus
      | some a =>
        rw [State.busLaw_iff_some (haccess.trans ha), hwaiters, hmanners]
        exact h.waits ha
    · rw [haccess]
      exact hserved v w' (hkept v w' hw')
  | true =>
    rw [hwaiter, if_pos rfl] at haccess
    rw [hwaiter, Bool.toNat_true] at hwaiters
    obtain ⟨hnone, hposted⟩ : t.waiters = 0 ∧ unposted s.manners = 0 := by
      cases ha : s.bus.access with
      | none =>
        have := (State.busLaw_iff_none ha).mp h.bus
        omega
      | some a =>
        obtain ⟨hone, hposted⟩ := (h.waits ha).attended (by omega)
        exact ⟨by omega, hposted⟩
    refine ⟨(State.busLaw_iff_none haccess).mpr ⟨hnone, by rw [hmanners, hposted]⟩, hlaw fun v w' hw' => ?_⟩
    have hserved' := hserved v w' (hkept v w' hw')
    rw [State.waiter_of_waiters hnone hw'] at hserved' ⊢
    exact hserved'.unattended.any_access _

/-- The waiter of a work has its access pending. -/
theorem access_of_waiter (h : s.Attended) {tag : Fin 4} {w : ReadWork} (hw : s.work tag = some w)
    (hwaiter : w.waiter = true) : s.bus.access.isSome = true := by
  have hserved := (State.waiterLaw_iff.mp h.waiters).1 tag w hw
  cases ha : s.bus.access with
  | some a => rfl
  | none =>
    rw [ha] at hserved
    rw [hserved.not_waiter] at hwaiter
    cases hwaiter

end State.Attended

/-- An answer ends the pending access of the waiter, if there is one to answer. -/
theorem State.access_answered {waiter : Bool} (h : waiter = true → s.bus.access.isSome = true) (data : Access → BitVec 32)
    (busError : Bool) :
    (s.bus.answered waiter data busError).access = if waiter then none else s.bus.access := by
  cases waiter with
  | false => rfl
  | true =>
    obtain ⟨a, ha⟩ := Option.isSome_iff_exists.mp (h rfl)
    simp [BusInterface.answered, ha, BusInterface.afterRead]

namespace State.Attended

theorem completeRead (h : s.Attended) {tag : Fin 4} {w : ReadWork} (returned : Line) (hw : s.work tag = some w) :
    (s.completeRead tag w returned).Attended := by
  have haccess := h.access_of_waiter hw
  rw [State.completeRead_eq tag w returned fun a ha => h.not_freeEntry ha]
  refine h.answered hw (s.work_setEntry tag _) ?_ rfl
  exact State.access_answered haccess _ _

theorem refuseRead (h : s.Attended) {tag : Fin 4} {w : ReadWork} (hw : s.work tag = some w) :
    (s.refuseRead tag w).Attended := by
  have haccess := h.access_of_waiter hw
  have hrefused : (s.withRefused tag w).Attended :=
    h.answered hw (s.work_setEntry tag _) (State.access_answered haccess _ _) rfl
  rw [State.refuseRead_eq tag w (fun a ha => h.not_freeEntry ha) haccess]
  split
  · exact hrefused.of_same (by rw [State.handRecord_bus]) (State.handRecord_reads ..) (by rw [State.handRecord_wq])
  · exact hrefused

/-! ## Acknowledgements (R57 to R59, R65) -/

end State.Attended

theorem State.retired_reads (k : Nat) (status : Status) (s : State) : (s.retired k status).reads = s.reads := by
  simp only [State.retired]
  repeat' split
  all_goals simp

theorem State.retired_manners (k : Nat) (status : Status) (s : State) :
    (s.retired k status).manners = s.manners.drop k := by
  rw [State.manners, State.retired_wq, State.removeEntries_wq, State.manners, List.map_drop]

theorem unposted_ne_zero (l : List WriteEntry) :
    unposted (l.map WriteEntry.manner) ≠ 0 ↔ l.any (fun e => !e.posted) = true := by
  rw [unposted, List.countP_map, ← Nat.pos_iff_ne_zero, List.countP_pos_iff, List.any_eq_true]
  rfl

theorem unposted_take_add_drop (l : List (Bool × Bool)) (k : Nat) : unposted (l.take k) + unposted (l.drop k) = unposted l := by
  rw [unposted, unposted, ← List.countP_append, List.take_append_drop, unposted]

/-- The removal of a non-posted entry ends the access that waits on it (R65). -/
theorem State.retired_access (k : Nat) (status : Status) (s : State) :
    (s.retired k status).bus.access =
      if unposted (s.manners.take k) ≠ 0 ∧ ∃ a, s.bus.access = some a ∧ a.wait = .entryRemoved then none
      else s.bus.access := by
  have hany := unposted_ne_zero (s.wq.entries.take k)
  rw [List.map_take] at hany
  unfold State.retired
  extract_lets reported
  have hreported : reported.bus = s.bus := by
    unfold reported
    repeat' split
    all_goals simp
  by_cases hnonposted : (s.wq.entries.take k).any (fun e => !e.posted) = true
  · have hne : unposted (s.manners.take k) ≠ 0 := hany.mpr hnonposted
    rw [if_pos hnonposted, State.endWriter, hreported]
    cases ha : s.bus.access with
    | none => simp [hreported, ha]
    | some a =>
      by_cases hwait : a.wait = .entryRemoved
      · simp [hwait, hne]
      · simp [hwait, hreported, ha]
  · have hzero : ¬ unposted (s.manners.take k) ≠ 0 := mt hany.mp hnonposted
    rw [if_neg hnonposted, hreported, if_neg fun h => hzero h.1]

theorem State.retired_access_kept {k : Nat} (status : Status) {a : Access} (ha : s.bus.access = some a)
    (hwait : a.wait = .entryRemoved → unposted (s.manners.take k) = 0) : (s.retired k status).bus.access = some a := by
  rw [State.retired_access, if_neg, ha]
  rintro ⟨hne, b, hb, hremoved⟩
  obtain rfl := Option.some.inj (ha.symm.trans hb)
  exact hne (hwait hremoved)

theorem State.ackEntries_of_access {k : Nat} {status : Status} {a : Access}
    (hspace : (s.retired k status).wq.entries.length < 8) (ha : (s.retired k status).bus.access = some a) :
    s.ackEntries k status =
      if a.wait = .queueSpace then (s.retired k status).presentWrite a
      else if a.wait = .queueEmpty ∧ (s.retired k status).wq.entries = [] then (s.retired k status).dispatchRead true a
      else s.retired k status := by
  rw [State.ackEntries_eq, State.resume_of_space hspace, ha]

namespace State.Attended

theorem retired_unattended (h : s.Attended) (k : Nat) (status : Status) (hwaiters : s.waiters = 0) :
    (s.retired k status).Unattended :=
  (State.Unattended.of_waiterLaw h.waiters hwaiters).congr fun v =>
    State.duty_congr (State.work_congr (by rw [State.retired_reads]) v)

/-- What waits on its entry goes on to wait when posted entries leave the queue. -/
theorem retired_entryDone (h : s.Attended) {k : Nat} {status : Status} {a : Access} (ha : s.bus.access = some a)
    (hwait : a.wait = .entryDone) : (s.retired k status).Attended := by
  have haccess := State.retired_access_kept (k := k) status ha fun hr => by rw [hwait] at hr; cases hr
  have hduty (v : Fin 4) : (s.retired k status).duty v = s.duty v :=
    State.duty_congr (State.work_congr (by rw [State.retired_reads]) v)
  obtain ⟨hserved, hfew⟩ := State.waiterLaw_iff.mp h.waiters
  refine ⟨(State.busLaw_iff_some haccess).mpr ?_, State.waiterLaw_iff.mpr
    ⟨?_, by rwa [State.unwaited_congr hduty]⟩⟩
  · have hwaits := h.waits ha
    rw [Access.Waits, hwait] at hwaits ⊢
    obtain ⟨hread, hone, hposted⟩ := hwaits
    have hsplit := unposted_take_add_drop s.manners k
    exact ⟨hread, (State.waiters_congr hduty).trans hone, by rw [State.retired_manners]; omega⟩
  · rw [haccess, ← ha]
    exact State.served_congr hduty hserved

/-- The writer of a non-posted entry waits until its entry, the youngest, is among the removed (R65). -/
theorem retired_entryRemoved (h : s.Attended) {k : Nat} {status : Status} {a : Access} (ha : s.bus.access = some a)
    (hwait : a.wait = .entryRemoved) : (s.retired k status).Attended := by
  have hwaits := h.waits ha
  rw [Access.Waits, hwait] at hwaits
  obtain ⟨hwrite, hnone, hone, hlast⟩ := hwaits
  have hrest := h.retired_unattended k status hnone
  have hsplit := unposted_take_add_drop s.manners k
  by_cases hk : k < s.manners.length
  · have hlast' : (s.manners.drop k).getLast? = some (false, true) := by
      rw [List.getLast?_drop, if_neg (by omega), hlast]
    have hmem : 0 < unposted (s.manners.drop k) :=
      List.countP_pos_iff.mpr ⟨_, List.mem_of_getLast? hlast', rfl⟩
    refine .of_waiting (a := a) hrest (State.retired_access_kept status ha fun _ => by omega) ?_
    rw [Access.Waits, hwait, State.retired_manners]
    exact ⟨hwrite, rfl, by omega, hlast'⟩
  · have hgone : s.manners.drop k = [] := List.drop_eq_nil_of_le (by omega)
    have hnil : unposted (s.manners.drop k) = 0 := by rw [hgone]; rfl
    refine .of_idle hrest ?_ (by rw [State.retired_manners, hnil])
    rw [State.retired_access, if_pos ⟨by omega, a, ha, hwait⟩]

/-- The entries that an ack names leave, and what waited for space or for an empty queue goes on (R53, R58). -/
theorem ackEntries (h : s.Attended) {k : Nat} {status : Status} (fill : (s.retired k status).FillLaw)
    (hspace : (s.retired k status).wq.entries.length < 8) : (s.ackEntries k status).Attended := by
  have hsplit := unposted_take_add_drop s.manners k
  have hmanners := State.retired_manners k status s
  cases ha : s.bus.access with
  | none =>
    have haccess : (s.retired k status).bus.access = none := by
      rw [State.retired_access, ha, ite_self]
    obtain ⟨hwaiters, hposted⟩ := (State.busLaw_iff_none ha).mp h.bus
    rw [State.ackEntries_eq, State.resume_of_space hspace, haccess]
    exact .of_idle (h.retired_unattended k status hwaiters) haccess (by rw [hmanners]; omega)
  | some a =>
    have hwaits := h.waits ha
    cases hwait : a.wait with
    | freeEntry => exact absurd hwait (h.not_freeEntry ha)
    | entryDone =>
      have hdone := h.retired_entryDone (k := k) (status := status) ha hwait
      have haccess := State.retired_access_kept (k := k) status ha fun hr => by rw [hwait] at hr; cases hr
      simpa [State.ackEntries_of_access hspace haccess, hwait] using hdone
    | entryRemoved =>
      have hremoved := h.retired_entryRemoved (k := k) (status := status) ha hwait
      cases haccess : (s.retired k status).bus.access with
      | none => simpa [State.ackEntries_eq, State.resume_of_space hspace, haccess] using hremoved
      | some b =>
        obtain rfl : a = b := by
          rw [State.retired_access] at haccess
          split at haccess
          · cases haccess
          · exact Option.some.inj (ha.symm.trans haccess)
        simpa [State.ackEntries_of_access hspace haccess, hwait] using hremoved
    | queueSpace =>
      have haccess := State.retired_access_kept (k := k) status ha fun hr => by rw [hwait] at hr; cases hr
      rw [Access.Waits, hwait] at hwaits
      obtain ⟨hwrite, hwaiters, hposted, -⟩ := hwaits
      rw [State.ackEntries_of_access hspace haccess, if_pos hwait]
      exact (h.retired_unattended k status hwaiters).presentWrite hwrite (by rw [hmanners]; omega) (by omega)
    | queueEmpty =>
      have haccess := State.retired_access_kept (k := k) status ha fun hr => by rw [hwait] at hr; cases hr
      rw [Access.Waits, hwait] at hwaits
      obtain ⟨hread, hwaiters, hposted, -⟩ := hwaits
      have hrest := h.retired_unattended k status hwaiters
      rw [State.ackEntries_of_access hspace haccess, if_neg (by simp [hwait])]
      split
      · exact hrest.dispatchRead fill true hread (by rw [hmanners]; omega)
      · rename_i hkept
        refine .of_waiting (a := a) hrest haccess ?_
        rw [Access.Waits, hwait]
        refine ⟨hread, rfl, by rw [hmanners]; omega, ?_⟩
        simpa [State.manners, hwait] using hkept

/-! ## Changes that neither attend an access nor end one -/

end State.Attended

theorem ReadWork.duty_release (w : ReadWork) : w.release.duty = w.duty := by
  obtain ⟨request, window, phase, waiter⟩ := w
  cases request <;> rfl

theorem State.duty_map {f : ReadWork → ReadWork} (hf : ∀ w, (f w).duty = w.duty) {tag : Fin 4}
    (h : t.work tag = (s.work tag).map f) : t.duty tag = s.duty tag := by
  rw [State.duty, h, Option.map_map, State.duty]
  exact congrArg (Option.map · (s.work tag)) (funext hf)

/-- One entry's work replaced by one with the same duty. -/
theorem State.duty_replaced {tag : Fin 4} {w w' : ReadWork} (hw : s.work tag = some w) (hduty : w'.duty = w.duty)
    (hwork : ∀ v, t.work v = if v = tag then some w' else s.work v) (v : Fin 4) : t.duty v = s.duty v := by
  rw [State.duty, hwork, State.duty]
  split
  · rename_i hv
    rw [hv, hw, Option.map_some, hduty, Option.map_some]
  · rfl

theorem State.duty_takeRead (s : State) (tag : Fin 4) (rest : List (Fin 4)) (v : Fin 4) :
    (s.takeRead tag rest).duty v = s.duty v := by
  unfold State.takeRead
  dsimp only
  split
  · rename_i w hw
    exact State.duty_replaced (w' := { w with phase := .inFlight }) hw rfl (s.work_setEntry tag
      { s.reads.entries[tag] with work := some { w with phase := .inFlight }, timer := s.startTimer }) v
  · rfl

theorem State.duty_transmit (s : State) (tag : Fin 4) : s.transmit.duty tag = s.duty tag := by
  unfold State.transmit
  split
  · rfl
  · split
    · rfl
    · split
      · rfl
      · split
        · exact s.duty_takeRead _ _ tag
        · split
          · exact State.duty_congr (State.work_congr (by rw [State.takeWrite_reads]) tag)
          · split <;> rfl

theorem map_set_of_eq {α β : Type} {f : α → β} {l : List α} {i : Nat} {x y : α} (hi : l[i]? = some x) (h : f y = f x) :
    (l.set i y).map f = l.map f := by
  obtain ⟨hlt, rfl⟩ := List.getElem?_eq_some_iff.mp hi
  have hlt' : i < (l.map f).length := by simpa using hlt
  rw [List.map_set, h, ← List.getElem_map f (h := hlt'), List.set_getElem_self]

theorem State.manners_takeWrite (s : State) (i : Nat) : (s.takeWrite i).manners = s.manners := by
  unfold State.manners
  cases hi : s.wq.entries[i]? with
  | none => simp only [State.takeWrite, hi]
  | some e =>
    cases he : e.state with
    | queued =>
      rw [State.takeWrite_wq_queued hi he]
      exact map_set_of_eq hi rfl
    | sent q replay =>
      rw [State.takeWrite_wq_sent hi he]
      exact map_set_of_eq hi rfl

theorem State.manners_transmit (s : State) : s.transmit.manners = s.manners := by
  unfold State.transmit
  split
  · rfl
  · split
    · rfl
    · split
      · rfl
      · split
        · exact State.manners_congr (State.takeRead_wq ..)
        · split
          · exact s.manners_takeWrite _
          · split <;> rfl

theorem markYoungest_posted : ∀ l : List WriteEntry,
    (markYoungest l).map WriteEntry.posted = l.map WriteEntry.posted
  | [] => rfl
  | [_] => rfl
  | _ :: f :: rest => congrArg (List.cons _) (markYoungest_posted (f :: rest))

theorem unposted_manners (l : List WriteEntry) :
    unposted (l.map WriteEntry.manner) = (l.map WriteEntry.posted).countP (!·) := by
  rw [unposted, List.countP_map, List.countP_map]
  rfl

namespace State.Attended

theorem transmit (h : s.Attended) : s.transmit.Attended :=
  h.congr (by rw [State.transmit_bus]) s.duty_transmit s.manners_transmit

theorem dropLine (h : s.Attended) (line : LineAddr) : (s.dropLine line).Attended := by
  refine h.congr (by rw [State.dropLine_bus]) (fun tag => ?_) (State.manners_congr (State.dropLine_wq ..))
  unfold State.dropLine
  split
  · rfl
  · rename_i w g ref _
    have hwork := State.work_releaseEntry (s.onSet (setOf line) (CacheSet.drop w)) ref tag
    by_cases hv : tag = ref
    · subst hv
      rw [if_pos rfl] at hwork
      exact State.duty_map ReadWork.duty_release hwork
    · rw [if_neg hv] at hwork
      exact State.duty_congr hwork
  all_goals rfl

theorem startSweep (h : s.Attended) : s.startSweep.Attended := by
  cases hrunning : s.sweep.isRunning with
  | true => rwa [State.startSweep_running hrunning]
  | false =>
    exact h.congr (by rw [State.startSweep_bus])
      (fun tag => State.duty_map ReadWork.duty_release (State.work_startSweep hrunning tag))
      (State.manners_congr (State.startSweep_wq _))

theorem resendRead (h : s.Attended) {tag : Fin 4} {w : ReadWork} (hw : s.work tag = some w) :
    (s.resendRead tag w).Attended := by
  refine h.congr rfl (State.duty_replaced (w' := { w with phase := .awaiting }) hw rfl ?_) rfl
  exact s.work_setEntry tag { s.reads.entries[tag] with
    work := some { w with phase := .awaiting }, issue := (s.reads.entries[tag]).issue + 1#2,
    retries := (s.reads.entries[tag]).retries + 1#3, timer := .stopped }

theorem replay (h : s.Attended) : s.replay.Attended := by
  refine h.congr rfl (fun _ => rfl) ?_
  refine (List.map_map ..).trans (List.map_congr_left fun e _ => ?_)
  simp only [Function.comp, WriteEntry.flagged, WriteEntry.manner]
  split <;> rfl

/-- A barrier closes and marks the youngest entry, and no posting changes. -/
theorem acceptBarrier (h : s.Attended) (haccess : s.bus.access = none) : s.acceptBarrier.Attended := by
  refine .of_idle ((h.unattended haccess).congr fun _ => rfl) haccess ?_
  have hposted := h.posted haccess
  rw [State.manners, unposted_manners] at hposted ⊢
  rwa [State.acceptBarrier_wq, markYoungest_posted]

/-- No entry is OUTSTANDING, the queue is empty and no access is pending. -/
theorem of_empty (hfree : ∀ tag, t.work tag = none) (hqueue : t.wq.entries = []) (haccess : t.bus.access = none) :
    t.Attended := by
  have hunwaited : t.unwaited = 0 := by
    rw [State.unwaited_eq, List.countP_eq_zero]
    intro tag _
    simp [hfree]
  refine .of_idle ⟨fun tag w hw => ?_, by omega⟩ haccess (by rw [State.manners, hqueue]; rfl)
  rw [hfree] at hw
  cases hw

end State.Attended

end Sys2Proof.Machine
end

section
/-! SUPPORT. The laws that stand together between two commands, first without the transmitter's and then with it: what the
transmitter's choice makes of them (R102, R103), what a change that reaches none of their items keeps, and that either reset's
state obeys every law (R175). -/

namespace Sys2Proof.Machine

variable {s t : State}

/-- The laws of the directory, of the read table, of the bus interface and of the window table. -/
structure State.Sound (s : State) : Prop where
  tracked : s.Tracked
  attended : s.Attended
  windows : s.WindowLaw

/-- The transmitter's law stands with the others: its choice has been made (R102). -/
structure State.Settled (s : State) : Prop where
  sound : s.Sound
  transmitter : s.TransmitterLaw

/-- What the laws of `State.Sound` speak of. -/
def State.items (s : State) : Directory × ReadTable × Sweep × Option Access × List WriteEntry × Vector Window 8 :=
  (s.dir, s.reads, s.sweep, s.bus.access, s.wq.entries, s.windows)

/-- What the transmitter's law speaks of, but for the read table and the write queue. -/
def State.offers (s : State) : Transmitter × Bool × Bool := (s.link.tx, s.link.joinPending, s.sync.ready)

theorem State.windowLaw_congr (h : s.WindowLaw) (hwindows : t.windows = s.windows) : t.WindowLaw := by
  rw [State.WindowLaw, hwindows]
  exact h

theorem State.Sound.of_items (h : s.Sound) (hitems : t.items = s.items) : t.Sound := by
  simp only [State.items, Prod.mk.injEq] at hitems
  obtain ⟨hdir, hreads, hsweep, haccess, hentries, hwindows⟩ := hitems
  exact ⟨h.tracked.of_same hdir hsweep hreads, h.attended.of_same haccess hreads hentries,
    State.windowLaw_congr h.windows hwindows⟩

/-- The transmitter's law stays when its state does and no offer is new. -/
theorem State.TransmitterLaw.mono (h : s.TransmitterLaw) (htx : t.link.tx = s.link.tx) (hoffered : t.Offered → s.Offered) :
    t.TransmitterLaw := fun hfree ho => h (htx ▸ hfree) (hoffered ho)

theorem State.TransmitterLaw.of_offers (h : s.TransmitterLaw) (hoffers : t.offers = s.offers)
    (hlist : t.reads.sendList = s.reads.sendList) (hentries : t.wq.entries = s.wq.entries) : t.TransmitterLaw := by
  simp only [State.offers, Prod.mk.injEq] at hoffers
  obtain ⟨htx, hpending, hready⟩ := hoffers
  refine h.mono htx fun ho => ?_
  rwa [State.Offered, hpending, hlist, hentries, hready] at ho

theorem State.Settled.of_items (h : s.Settled) (hitems : t.items = s.items) (hoffers : t.offers = s.offers) : t.Settled := by
  refine ⟨h.sound.of_items hitems, h.transmitter.of_offers hoffers ?_ ?_⟩
  all_goals
    simp only [State.items, Prod.mk.injEq] at hitems
    simp only [hitems]

/-! ## The transmitter's choice (R102, R103) -/

theorem writeOffer_getElem {l : List WriteEntry} {i : Nat} (h : writeOffer l = some i) : ∃ e, l[i]? = some e := by
  have hlt : i < l.length := by
    unfold writeOffer at h
    split at h
    · rename_i hreplay
      cases h
      exact (List.findIdx?_eq_some_iff_getElem.mp hreplay).1
    · exact (List.findIdx?_eq_some_iff_getElem.mp h).1
  exact ⟨l[i], List.getElem?_eq_getElem hlt⟩

/-- A FREE transmitter that something is offered to takes a frame (R102). -/
theorem State.transmit_sends (send : s.SendLaw) (hr : s.pins.resetAsserted = false) (hfree : s.link.tx = .free)
    (ho : s.Offered) : ∃ frame, s.transmit.link.tx = .sending frame := by
  simp only [State.transmit, hr, Bool.false_eq_true, if_false, hfree]
  split
  · exact ⟨_, rfl⟩
  · rename_i hjoin
    split
    · rename_i tag rest hlist
      obtain ⟨w, hw, -⟩ := (send.2 tag).mp (by rw [hlist]; exact List.mem_cons_self)
      exact ⟨_, by rw [State.takeRead_of_work rest hw]⟩
    · rename_i hlist
      split
      · rename_i i hi
        obtain ⟨e, he⟩ := writeOffer_getElem hi
        simp only [State.takeWrite, he]
        split
        · split <;> exact ⟨_, rfl⟩
        · exact ⟨_, rfl⟩
      · rename_i hoffer
        split
        · exact ⟨_, rfl⟩
        · rename_i hready
          rcases ho with h | h | h | h
          · exact absurd h hjoin
          · exact absurd hlist h
          · rw [hoffer] at h
            cases h
          · exact absurd h hready

theorem State.transmit_transmitterLaw (send : s.SendLaw) (hr : s.pins.resetAsserted = false) :
    s.transmit.TransmitterLaw := by
  by_cases hidle : s.link.tx = .free ∧ s.Offered
  · intro hfree
    obtain ⟨frame, hsends⟩ := State.transmit_sends send hr hidle.1 hidle.2
    rw [hsends] at hfree
    cases hfree
  · have hnone : s.TransmitterLaw := fun hfree ho => hidle ⟨hfree, ho⟩
    rwa [State.transmit_of_noOffer hnone]

/-- The transmitter's choice settles a state that lacks nothing but it. -/
theorem State.Sound.transmit (h : s.Sound) (hr : s.pins.resetAsserted = false) : s.transmit.Settled :=
  ⟨⟨h.tracked.transmit, h.attended.transmit, State.windowLaw_congr h.windows (State.transmit_windows _)⟩,
    State.transmit_transmitterLaw h.tracked.send hr⟩

/-! ## Resets (R175) -/

/-- The right column of R175, with a window table that obeys its law, obeys every law. -/
theorem State.Cleared.laws (h : t.Cleared) (windows : t.WindowLaw) : t.Laws := by
  have tracked := State.Tracked.of_cleared h
  have hqueue : t.wq.entries = [] := by rw [h.queue]
  have attended : t.Attended := .of_empty (fun tag => (h.entries tag).1) hqueue h.access
  have hsync : t.sync.state = .idle := by rw [h.sync]
  have hoffered : ¬ t.Offered := by
    simp [State.Offered, h.joinPending, h.sendList, hqueue, writeOffer, SyncUnit.ready, hsync]
  exact {
    order := .of_cleared fun i => (h.sets i).trans rfl
    unique := tracked.unique
    fill := tracked.fill
    sweep := tracked.sweep
    queue := by
      rw [State.QueueLaw, hqueue]
      exact ⟨Nat.zero_le 8, trivial⟩
    entries := by
      rw [State.EntryLaw, hqueue]
      exact entriesLaw_nil
    windows := windows
    link := State.linkLaw_iff.mpr fun _ =>
      ⟨fun tag => (h.entries tag).1, hqueue, tracked.fill.noFilling fun tag => (h.entries tag).1, by simp [hsync],
        by simp [hsync], h.access⟩
    records := .of_empty (by rw [h.records])
    send := tracked.send
    timers := by
      refine State.timerLaw_iff.mpr ⟨fun tag => ?_, ?_, ?_, ?_⟩
      · obtain ⟨hfree, -, -, htimer⟩ := h.entries tag
        exact ReadEntry.timed_of_free hfree htimer
      · simp [WriteQueue.Timed, h.queue]
      · exact SyncUnit.timed_of_stopped (by rw [h.sync]) (by simp [hsync])
      · exact LinkController.timed_of_stopped (by simp [h.linkState]) (by simp [h.linkState]) h.joinPending h.joinTimer
          h.quietTimer
    bus := attended.bus
    waiters := attended.waiters
    transmitter := fun _ => hoffered
    reset := fun _ => ⟨h.linkState, h.transmitter⟩ }

theorem State.windowLaw_of_disabled (h : ∀ i : Fin 8, (t.windows[i]).enabled = false) : t.WindowLaw := fun i hi => by
  rw [h i] at hi
  cases hi

theorem State.resetWith_windowLaw (straps : BitVec 4) : (State.resetWith straps).WindowLaw :=
  State.windowLaw_of_disabled fun i => by
    rw [State.resetWith_window]
    rfl

/-- The state of the reset input obeys every law, whatever the pins and the waiting commands. -/
theorem State.assertReset_laws (straps : BitVec 4) (s : State) : (s.assertReset straps).Laws :=
  (s.assertReset_cleared straps).laws (State.resetWith_windowLaw straps)

/-- Settles O7: the state right after reset differs from the reset input's own in the pins alone, which R175 leaves out. -/
theorem resetObeysTheLaws : Obligations.ResetObeysTheLaws := by
  have hcleared : State.reset.Cleared := by
    obtain ⟨⟩ := State.reset.assertReset_cleared 0#4
    constructor <;> assumption
  exact hcleared.laws (State.resetWith_windowLaw 0#4)

end Sys2Proof.Machine
end

section
/-! SUPPORT. The laws that stand between two commands, command by command: the cycles on the local bus, the command register, the
arriving frames and the events of the part itself, while the reset input is not asserted. -/

namespace Sys2Proof.Machine

variable {s t : State}

/-! ## Sweeps and dropped lines -/

namespace State.Sound

theorem dropLine (h : s.Sound) (line : LineAddr) : (s.dropLine line).Sound :=
  ⟨h.tracked.dropLine line, h.attended.dropLine line, State.windowLaw_congr h.windows (State.dropLine_windows ..)⟩

theorem startSweep (h : s.Sound) : s.startSweep.Sound :=
  ⟨h.tracked.startSweep, h.attended.startSweep, State.windowLaw_congr h.windows (State.startSweep_windows _)⟩

/-- Teardown ends every entry and the pending access, and empties the queue (R98). -/
theorem of_tornDown (h : s.Sound) (torn : State.TornDown s t) (haccess : t.bus.access = none) : t.Sound :=
  ⟨h.tracked.of_tornDown torn, .of_empty (fun tag => (torn.entries tag).1) (by rw [torn.queue]) haccess,
    State.windowLaw_congr h.windows torn.windows⟩

end State.Sound

/-- Teardown leaves no request, no write and no barrier for the transmitter (R98). -/
theorem State.TornDown.not_offered (torn : State.TornDown s t) (hpending : t.link.joinPending = false) : ¬ t.Offered := by
  have hready : t.sync.ready = false := by
    rw [torn.sync]
    unfold SyncUnit.ready SyncUnit.fails
    cases s.sync.state <;> cases s.sync.mark <;> rfl
  simp [State.Offered, hpending, torn.sendList, torn.queue, writeOffer, hready]

/-- A NOTICE's or INVALIDATE_LINE's drop offers nothing. -/
theorem State.dropLine_sendList (line : LineAddr) (s : State) : (s.dropLine line).reads.sendList = s.reads.sendList := by
  unfold State.dropLine
  split <;> rfl

namespace State.Settled

theorem dropLine (h : s.Settled) (line : LineAddr) : (s.dropLine line).Settled :=
  ⟨h.sound.dropLine line, h.transmitter.of_offers (by simp [State.offers]) (State.dropLine_sendList line s) (by simp)⟩

theorem startSweep (h : s.Settled) : s.startSweep.Settled :=
  ⟨h.sound.startSweep, h.transmitter.of_offers (by simp [State.offers]) (State.startSweep_sendList s) (by simp)⟩

theorem stepSweep (h : s.Settled) : s.stepSweep.Settled := by
  have hframe : s.stepSweep.reads = s.reads ∧ s.stepSweep.wq = s.wq ∧ s.stepSweep.bus = s.bus ∧
      s.stepSweep.windows = s.windows ∧ s.stepSweep.offers = s.offers := by
    unfold State.stepSweep
    dsimp only
    split
    · split <;> exact ⟨rfl, rfl, rfl, rfl, rfl⟩
    · exact ⟨rfl, rfl, rfl, rfl, rfl⟩
  obtain ⟨hreads, hwq, hbus, hwindows, hoffers⟩ := hframe
  exact ⟨⟨h.sound.tracked.stepSweep, h.sound.attended.of_same (by rw [hbus]) hreads (by rw [hwq]),
    State.windowLaw_congr h.sound.windows hwindows⟩, h.transmitter.of_offers hoffers (by rw [hreads]) (by rw [hwq])⟩

/-! ## Failures (R97 to R101) -/

theorem fail (h : s.Settled) (hr : s.pins.resetAsserted = false) (cause : Cause) : (s.fail cause).Settled := by
  have hsound (link : LinkController) : { s.afterFailure cause with link := link }.Sound :=
    h.sound.of_tornDown (State.tornDown_afterFailure cause h.sound.tracked.fill link)
      (by rw [State.afterFailure_bus, State.endAtTeardown_access])
  have hpins : (s.afterFailure cause).pins = s.pins := by simp [State.afterFailure]
  rw [State.fail_eq]
  generalize s.afterFailure cause = u at hsound hpins ⊢
  have hr' : u.pins.resetAsserted = false := (congrArg Pins.resetAsserted hpins).trans hr
  split
  · exact (hsound { u.link with state := .joining, joinRetries := 0#3, joinPending := true }).transmit hr'
  · exact (hsound u.link).transmit hr'

end State.Settled

/-! ## Cycles in the aperture (R127) -/

theorem State.direction_of_checkAccess {c : Cycle} {direction : Direction} {a : Access}
    (h : s.checkAccess c direction = .ok a) : a.direction = direction := by
  unfold State.checkAccess at h
  dsimp only at h
  split at h
  · cases h
  · split at h
    · split at h
      · split at h
        · cases h
        · split at h
          · cases h
          · cases h
            rfl
      all_goals cases h
    · cases h

namespace State.Settled

theorem apertureRead (h : s.Settled) (hr : s.pins.resetAsserted = false) (c : Cycle) : (s.apertureRead c).Settled := by
  unfold State.apertureRead
  split
  · exact h
  · rename_i hheld
    obtain ⟨haccess, -⟩ := State.busHeld_iff.mp (Bool.not_eq_true _ ▸ hheld)
    split
    · exact h.of_items (by simp [State.items, haccess]) (by simp [State.offers])
    · rename_i a hok
      have hattended := (h.sound.attended.unattended haccess).startRead h.sound.tracked.fill
        (State.direction_of_checkAccess hok) (h.sound.attended.posted haccess)
      exact State.Sound.transmit ⟨h.sound.tracked.startRead a, hattended,
        State.windowLaw_congr h.sound.windows (State.startRead_windows ..)⟩ (by rwa [State.startRead_pins])

theorem apertureWrite (h : s.Settled) (hr : s.pins.resetAsserted = false) (hlength : s.wq.entries.length ≤ 8) (c : Cycle)
    (data : BitVec 32) : (s.apertureWrite c data).Settled := by
  unfold State.apertureWrite
  split
  · exact h
  · rename_i hheld
    obtain ⟨haccess, -⟩ := State.busHeld_iff.mp (Bool.not_eq_true _ ▸ hheld)
    split
    · exact h.of_items (by simp [State.items, haccess]) (by simp [State.offers])
    · rename_i a hok
      have hwrite : a.direction ≠ .read := by
        rw [State.direction_of_checkAccess hok]
        simpa using writeDirection_isWrite c data
      have hattended := (h.sound.attended.unattended haccess).presentWrite hwrite (h.sound.attended.posted haccess) hlength
      exact State.Sound.transmit ⟨h.sound.tracked.presentWrite a, hattended,
        State.windowLaw_congr h.sound.windows (State.presentWrite_windows ..)⟩ (by rwa [State.presentWrite_pins])

/-! ## The rows that end waits: a wait that the law allows has not ended (R126) -/

theorem resumeFreeEntry_eq (h : s.Settled) : s.resumeFreeEntry = s :=
  State.resumeFreeEntry_idle fun _ ha => h.sound.attended.not_freeEntry ha

theorem resumeQueueSpace_eq (h : s.Settled) : s.resumeQueueSpace = s := by
  unfold State.resumeQueueSpace
  split
  · rename_i a ha
    refine if_neg fun hready => ?_
    simp only [Bool.and_eq_true, decide_eq_true_eq] at hready
    have hwaits := h.sound.attended.waits ha
    rw [Access.Waits, hready.1] at hwaits
    obtain ⟨-, -, -, hfull⟩ := hwaits
    rw [State.manners, List.length_map] at hfull
    omega
  · rfl

theorem resumeQueueEmpty_eq (h : s.Settled) : s.resumeQueueEmpty = s := by
  unfold State.resumeQueueEmpty
  split
  · rename_i a ha
    refine if_neg fun hready => ?_
    simp only [Bool.and_eq_true, decide_eq_true_eq, List.isEmpty_iff] at hready
    have hwaits := h.sound.attended.waits ha
    rw [Access.Waits, hready.1] at hwaits
    obtain ⟨-, -, -, hkept⟩ := hwaits
    exact hkept (by rw [State.manners, hready.2, List.map_nil])
  · rfl

/-! ## Arriving frames (R106) -/

theorem takeResponse (h : s.Settled) (hr : s.pins.resetAsserted = false) (tag : Fin 4) (issue : Issue) (isLine : Bool)
    (status : Status) (returned : ReadWork → Line) : (s.takeResponse tag issue isLine status returned).Settled := by
  unfold State.takeResponse
  split
  · exact h.of_items rfl rfl
  · rename_i w hanswered
    obtain ⟨hw, hphase⟩ : s.work tag = some w ∧ w.phase = .inFlight := by
      unfold ReadEntry.answeredBy at hanswered
      split at hanswered
      · rename_i w' hw'
        split at hanswered
        · rename_i hmatch
          cases hanswered
          exact ⟨hw', hmatch.1⟩
        · cases hanswered
      · cases hanswered
    split
    · exact State.Sound.transmit ⟨h.sound.tracked.completeRead _ hw hphase, h.sound.attended.completeRead _ hw,
        State.windowLaw_congr h.sound.windows (State.completeRead_windows ..)⟩ (by rwa [State.completeRead_pins])
    · exact State.Sound.transmit ⟨h.sound.tracked.refuseRead hw hphase, h.sound.attended.refuseRead hw,
        State.windowLaw_congr h.sound.windows (State.refuseRead_windows ..)⟩ (by rwa [State.refuseRead_pins])

end State.Settled

theorem State.Tracked.retired (h : s.Tracked) (k : Nat) (status : Status) : (s.retired k status).Tracked := by
  have hremoved : (s.removeEntries k).Tracked :=
    h.of_same (State.removeEntries_dir ..) (State.removeEntries_sweep ..) (State.removeEntries_reads ..)
  unfold State.retired
  extract_lets reported
  have hreported : reported.Tracked := by
    unfold reported
    split
    · split
      · exact (hremoved.of_same (t := (s.removeEntries k).handRecord _) (State.handRecord_dir ..) (State.handRecord_sweep ..)
          (State.handRecord_reads ..)).invalidateValid _
      · exact hremoved
    · exact hremoved
  split
  · exact hreported.of_same (State.endWriter_dir ..) (State.endWriter_sweep ..) (State.endWriter_reads ..)
  · exact hreported

/-- An ack that names an entry names at least one, and the queue holds it (R57). -/
theorem WriteQueue.pos_of_named {q : WriteQueue} {seq : Seq} {k : Nat} (h : q.named seq = some k) :
    0 < k ∧ 0 < q.entries.length := by
  unfold WriteQueue.named at h
  split at h
  · rename_i oldest holdest
    have hlength := List.length_pos_of_mem (List.mem_of_find?_eq_some holdest)
    split at h
    · split at h
      · cases h
        exact ⟨Nat.succ_pos _, hlength⟩
      · cases h
    · cases h
  · cases h

namespace State.Settled

theorem takeWriteAck (h : s.Settled) (hr : s.pins.resetAsserted = false) (hlength : s.wq.entries.length ≤ 8) (seq : Seq)
    (status : Status) (total : BitVec 8) : (s.takeWriteAck seq status total).Settled := by
  have hchecked {u : State} (hu : u.Sound) (hpins : u.pins = s.pins) : (u.checkTotal status total).transmit.Settled :=
    State.Sound.transmit (hu.of_items (by simp [State.items, State.checkTotal_wq])) (by simpa [hpins] using hr)
  unfold State.takeWriteAck
  dsimp only
  split
  · rename_i k hk
    obtain ⟨hpos, hheld⟩ := WriteQueue.pos_of_named hk
    have hretired := h.sound.tracked.retired k status
    have hspace : (s.retired k status).wq.entries.length < 8 := by
      rw [State.retired_wq, State.removeEntries_wq, List.length_drop]
      omega
    exact hchecked ⟨hretired.resumeQueueSpace.resumeQueueEmpty, h.sound.attended.ackEntries hretired.fill hspace,
      State.windowLaw_congr h.sound.windows (State.ackEntries_windows ..)⟩ (State.ackEntries_pins ..)
  · exact hchecked (h.sound.of_items rfl) rfl

theorem takeSyncAck (h : s.Settled) (issue : Issue) : (s.takeSyncAck issue).Settled := by
  unfold State.takeSyncAck
  split
  · refine ⟨h.sound.of_items rfl, h.transmitter.mono rfl fun ho => ?_⟩
    rcases ho with ho | ho | ho | ho
    · exact .inl ho
    · exact .inr (.inl ho)
    · exact .inr (.inr (.inl ho))
    · cases ho
  · exact h.of_items rfl rfl

theorem takeNotice (h : s.Settled) (seq : Seq) (line : LineAddr) : (s.takeNotice seq line).Settled := by
  unfold State.takeNotice
  dsimp only
  split
  · have hexpected : { s with notices := { expected := s.notices.expected + 1#8 } }.Settled := h.of_items rfl rfl
    split
    · exact (hexpected.dropLine line).of_items rfl rfl
    · exact hexpected
  · have hreported : (s.handRecord ⟨.noticeGap s.notices.expected seq, 1#8⟩).Settled :=
      h.of_items (by simp [State.items]) (by simp [State.offers])
    exact hreported.startSweep.of_items rfl rfl

theorem takeTick (h : s.Settled) (next : Seq) : (s.takeTick next).Settled := by
  unfold State.takeTick
  dsimp only
  split
  · exact h
  · have hreported : (s.handRecord ⟨.noticeGap s.notices.expected next, 1#8⟩).Settled :=
      h.of_items (by simp [State.items]) (by simp [State.offers])
    exact hreported.startSweep.of_items rfl rfl

theorem takeFrame (h : s.Settled) (hr : s.pins.resetAsserted = false) (hlength : s.wq.entries.length ≤ 8) :
    ∀ f : InFrame, (s.takeFrame f).Settled
  | .welcome _ => h.of_items rfl rfl
  | .lineData .. => h.takeResponse hr _ _ _ _ _
  | .wordData .. => h.takeResponse hr _ _ _ _ _
  | .writeAck seq status total => h.takeWriteAck hr hlength seq status total
  | .syncAck issue => h.takeSyncAck issue
  | .notice seq line => h.takeNotice seq line
  | .tick next => h.takeTick next
  | .restart => h.fail hr .storeRestart

theorem joinUp (h : s.Settled) (first : Seq) : (s.joinUp first).Settled := by
  refine ⟨h.sound.of_items rfl, h.transmitter.mono rfl fun ho => ?_⟩
  rcases ho with ho | ho | ho | ho
  · cases ho
  · exact .inr (.inl ho)
  · exact .inr (.inr (.inl ho))
  · exact .inr (.inr (.inr ho))

theorem receive (h : s.Settled) (hlength : s.wq.entries.length ≤ 8) (f : InFrame) : (s.receive f).Settled := by
  unfold State.receive
  split
  · exact h
  · rename_i hr
    rw [Bool.not_eq_true] at hr
    split
    · exact h
    · exact h
    · cases f
      case welcome first => exact h.joinUp first
      all_goals exact h.of_items rfl rfl
    · have hquiet : s.restartQuiet.Settled := h.of_items rfl rfl
      exact hquiet.takeFrame hr hlength f

theorem receiveBytes (h : s.Settled) (hlength : s.wq.entries.length ≤ 8) (bytes : List Byte) :
    (s.receiveBytes bytes).Settled := by
  unfold State.receiveBytes
  split
  · exact h
  · split
    · exact h
    · exact h
    all_goals
      split
      · exact h.of_items rfl rfl
      · exact h.receive hlength _

/-! ## The register window's ports (R167, R168) -/

theorem indexCycle (h : s.Settled) (c : IndexCycle) : (s.indexCycle c).Settled := by
  unfold State.indexCycle
  split
  · exact h
  · rename_i hheld
    obtain ⟨haccess, -⟩ := State.busHeld_iff.mp (Bool.not_eq_true _ ▸ hheld)
    cases c <;> exact h.of_items (by simp [State.items, State.readIndex, State.writeIndex, haccess]) rfl

theorem wrongWidth (h : s.Settled) (access : WrongWidth) : (s.wrongWidth access).Settled := by
  unfold State.wrongWidth
  split
  · exact h
  · rename_i hheld
    obtain ⟨haccess, -⟩ := State.busHeld_iff.mp (Bool.not_eq_true _ ▸ hheld)
    cases access <;> exact h.of_items (by simp [State.items, haccess]) rfl

theorem dataRead (h : s.Settled) : s.dataRead.Settled := by
  unfold State.dataRead State.advanceIndex
  split
  · exact h
  · rename_i hheld
    obtain ⟨haccess, -⟩ := State.busHeld_iff.mp (Bool.not_eq_true _ ▸ hheld)
    split <;> exact h.of_items (by simp [State.items, haccess]) rfl

/-! ## The events of the part itself -/

theorem endTransmission (h : s.Settled) (hr : s.pins.resetAsserted = false) : s.endTransmission.Settled := by
  unfold State.endTransmission
  split
  · exact State.Sound.transmit (s := { s with link := { s.link with tx := .free } }) (h.sound.of_items rfl) hr
  · exact h

theorem expireResponse (h : s.Settled) (hr : s.pins.resetAsserted = false) (timers : s.TimerLaw) (tag : Fin 4) :
    (s.expireResponse tag).Settled := by
  unfold State.expireResponse
  split
  · rename_i w hw
    split
    · rename_i hrun
      obtain ⟨w', hw', hphase⟩ := (timers.1 tag).mp hrun
      obtain rfl := Option.some.inj (hw.symm.trans hw')
      split
      · exact State.Sound.transmit (s := s.resendRead tag w) ⟨h.sound.tracked.resendRead hw hphase,
          h.sound.attended.resendRead hw, h.sound.windows⟩ hr
      · exact h.fail hr _
    · exact h
  · exact h

theorem expireWrite (h : s.Settled) (hr : s.pins.resetAsserted = false) : s.expireWrite.Settled := by
  unfold State.expireWrite
  split
  · split
    · exact State.Sound.transmit (s := s.replay) ⟨h.sound.tracked.of_same rfl rfl rfl, h.sound.attended.replay,
        h.sound.windows⟩ hr
    · exact h.fail hr _
  · exact h

theorem expireSync (h : s.Settled) (hr : s.pins.resetAsserted = false) : s.expireSync.Settled := by
  unfold State.expireSync
  split
  · split
    · exact State.Sound.transmit (s := s.resendSync) (h.sound.of_items rfl) hr
    · exact h.fail hr _
  · exact h

theorem expireJoin (h : s.Settled) (hr : s.pins.resetAsserted = false) : s.expireJoin.Settled := by
  unfold State.expireJoin
  split
  · split
    · exact State.Sound.transmit (s := s.resendJoin) (h.sound.of_items rfl) hr
    · exact h.of_items (by simp [State.items, State.failJoin, State.linkFailed])
        (by simp [State.offers, State.failJoin, State.linkFailed])
  · exact h

theorem expireQuiet (h : s.Settled) (hr : s.pins.resetAsserted = false) : s.expireQuiet.Settled := by
  unfold State.expireQuiet
  split
  · exact h.fail hr _
  · exact h

theorem deassertReset (h : s.Settled) : s.deassertReset.Settled := by
  unfold State.deassertReset
  split <;> exact h.of_items rfl rfl

end State.Settled

end Sys2Proof.Machine
end

section
/-! SUPPORT. The DATA writes, whose effects start and end with no access pending (R168), and every command together: the laws of
the bridge are kept by every step. -/

namespace Sys2Proof.Machine

variable {s t : State}

theorem State.Laws.settled (h : s.Laws) : s.Settled :=
  ⟨⟨⟨h.unique, h.fill, h.sweep, h.send⟩, ⟨h.bus, h.waiters⟩, h.windows⟩, h.transmitter⟩

/-- The laws stand between two commands, and no access is pending. -/
structure State.AtRest (s : State) : Prop where
  settled : s.Settled
  access : s.bus.access = none

namespace State.AtRest

theorem of_items (h : s.AtRest) (hitems : t.items = s.items) (hoffers : t.offers = s.offers) : t.AtRest := by
  refine ⟨h.settled.of_items hitems hoffers, ?_⟩
  simp only [State.items, Prod.mk.injEq] at hitems
  rw [hitems.2.2.2.1, h.access]

theorem setStatus (h : s.AtRest) (status : CommandStatus) : (s.setStatus status).AtRest := h.of_items rfl rfl

theorem startSweep (h : s.AtRest) : s.startSweep.AtRest := ⟨h.settled.startSweep, by rw [State.startSweep_bus, h.access]⟩

theorem dropLine (h : s.AtRest) (line : LineAddr) : (s.dropLine line).AtRest :=
  ⟨h.settled.dropLine line, by rw [State.dropLine_bus, h.access]⟩

theorem of_transmit (hsound : t.Sound) (hr : t.pins.resetAsserted = false) (haccess : t.bus.access = none) :
    t.transmit.AtRest :=
  ⟨hsound.transmit hr, by rw [State.transmit_bus, haccess]⟩

/-! ## The commands of the command register (R173) -/

theorem joinCommand (h : s.AtRest) (hr : s.pins.resetAsserted = false) : s.joinCommand.AtRest := by
  unfold State.joinCommand
  split
  · exact h.setStatus _
  · exact h.setStatus _
  all_goals
    split
    · exact h.setStatus _
    · exact (of_transmit (t := s.beginJoin) (h.settled.sound.of_items rfl) hr h.access).setStatus _

/-- Teardown leaves nothing to offer, and no access (R98, R143). -/
theorem teardown (h : s.AtRest) : s.teardown.AtRest := by
  have torn := State.tornDown_teardown h.settled.sound.tracked.fill
  have haccess : s.teardown.bus.access = none := by rw [State.teardown_bus, State.endAtTeardown_access]
  exact ⟨⟨h.settled.sound.of_tornDown torn haccess, fun _ => torn.not_offered (by rw [State.teardown_link])⟩, haccess⟩

theorem down (h : s.AtRest) : { s with link := { s.link with state := .down } }.AtRest := h.of_items rfl rfl

theorem stopCommand (h : s.AtRest) : s.stopCommand.AtRest := by
  unfold State.stopCommand
  split
  · exact h.teardown.down.setStatus _
  · exact h.teardown.down.setStatus _
  · exact h.startSweep.down.setStatus _
  · exact h.startSweep.down.setStatus _

theorem softResetCommand (h : s.AtRest) : s.softResetCommand.AtRest := by
  have hcleared := State.softResetCommand_cleared (s := s) (b := s.softResetCommand.bus) rfl
  exact ⟨(hcleared.laws h.settled.sound.windows).settled, rfl⟩

theorem syncCommand (h : s.AtRest) (hr : s.pins.resetAsserted = false) : s.syncCommand.AtRest := by
  have haccepted : s.acceptBarrier.transmit.AtRest :=
    of_transmit ⟨h.settled.sound.tracked.of_same rfl rfl rfl, h.settled.sound.attended.acceptBarrier h.access,
      h.settled.sound.windows⟩ hr h.access
  unfold State.syncCommand
  split
  · split
    · exact h.setStatus _
    · exact h.setStatus _
    all_goals exact haccepted.setStatus _
  all_goals exact h.setStatus _

theorem popCommand (h : s.AtRest) : s.popCommand.AtRest := by
  unfold State.popCommand
  split <;> exact h.of_items rfl rfl

/-- A change of the window table that keeps its law. -/
theorem of_windows (h : s.AtRest) {windows : Vector Window 8} (law : { s with windows := windows }.WindowLaw) :
    { s with windows := windows }.AtRest :=
  ⟨⟨⟨h.settled.sound.tracked.of_same rfl rfl rfl, h.settled.sound.attended.of_same rfl rfl rfl, law⟩,
    h.settled.transmitter.of_offers rfl rfl rfl⟩, h.access⟩

theorem setWindow (h : s.AtRest) {i : Fin 8} {w : Window} (hw : w.enabled = true → w.usable = true) :
    (s.setWindow i w).AtRest :=
  h.of_windows (windowLaw_setWindow h.settled.sound.windows hw)

theorem enableCommand (h : s.AtRest) : s.enableCommand.AtRest := by
  unfold State.enableCommand
  dsimp only
  split
  · rename_i husable
    exact (h.setWindow (i := s.cmd.windowArg) (w := { s.windows[s.cmd.windowArg] with enabled := true })
      fun _ => husable).setStatus _
  · exact h.setStatus _

theorem disableCommand (h : s.AtRest) : s.disableCommand.AtRest :=
  (h.setWindow fun he => (by cases he)).setStatus _

theorem commandRegister (h : s.AtRest) (hr : s.pins.resetAsserted = false) (v : Half) : (s.commandRegister v).AtRest := by
  unfold State.commandRegister
  split
  · exact h.joinCommand hr
  · exact h.stopCommand
  · exact h.softResetCommand
  · exact h.startSweep.setStatus _
  · exact h.syncCommand hr
  · exact h.popCommand
  · exact (h.dropLine _).setStatus _
  · exact h.enableCommand
  · exact h.disableCommand
  all_goals exact h.of_items rfl rfl

/-! ## The register that the index selects (R169, R178) -/

theorem writeWindowField (h : s.AtRest) (field : WindowField) (v : Half) : (s.writeWindowField field v).AtRest := by
  have law := windowLaw_writeWindowField field v h.settled.sound.windows
  unfold State.writeWindowField at law ⊢
  dsimp only at law ⊢
  split
  · exact h
  · rename_i hdisabled
    rw [if_neg hdisabled] at law
    exact h.of_windows law

/-- HOLD is no item of a law: it decides over the victims that are offered later (R20). -/
theorem writeHold (h : s.AtRest) (v : Half) : (s.writeHold v).AtRest :=
  ⟨⟨⟨⟨h.settled.sound.tracked.unique, h.settled.sound.tracked.fill, h.settled.sound.tracked.sweep,
    h.settled.sound.tracked.send⟩, h.settled.sound.attended.of_same rfl rfl rfl, h.settled.sound.windows⟩,
    h.settled.transmitter⟩, h.access⟩

theorem writeRegister (h : s.AtRest) (hr : s.pins.resetAsserted = false) (i : BitVec 7) (v : Half) :
    (s.writeRegister i v).AtRest := by
  unfold State.writeRegister
  split
  case h_1 => exact h.commandRegister hr v
  case h_8 => exact h.writeHold v
  case h_16 | h_17 | h_18 | h_19 | h_20 | h_21 => exact h.writeWindowField _ v
  all_goals exact h.of_items rfl rfl

end State.AtRest

namespace State.Settled

/-- A DATA write keeps the laws when its effect does, from a state with no access pending to one. -/
theorem dataWrite (h : s.Settled) {effect : State → State} (heffect : s.AtRest → (effect s).AtRest) :
    (s.dataWrite effect).Settled := by
  cases hheld : s.busHeld with
  | true => rwa [State.dataWrite_held effect hheld]
  | false =>
    have hcan := State.busHeld_iff.mp hheld
    have hrest := heffect ⟨h, hcan.1⟩
    rw [State.dataWrite_eq effect hcan]
    exact hrest.settled.of_items (by simp [State.items, BusInterface.afterDataWrite, hrest.access]) rfl

/-! ## Every command while the reset input is not asserted -/

theorem exec (h : s.Settled) (hr : s.pins.resetAsserted = false) (hlength : s.wq.entries.length ≤ 8)
    (timers : s.TimerLaw) : ∀ i : Instr, ∃ t, exec i s = .next t ∧ t.Settled
  | .resetInput straps => ⟨_, rfl, (s.assertReset_laws straps).settled⟩
  | .resetDeassertion => ⟨_, rfl, h.deassertReset⟩
  | .apertureRead c => ⟨_, rfl, h.apertureRead hr c⟩
  | .apertureWrite c data => ⟨_, rfl, h.apertureWrite hr hlength c data⟩
  | .readResumesFreeEntry => ⟨_, rfl, h.resumeFreeEntry_eq.symm ▸ h.sound.transmit hr⟩
  | .writeResumesQueueSpace => ⟨_, rfl, h.resumeQueueSpace_eq.symm ▸ h.sound.transmit hr⟩
  | .orderedReadDispatch => ⟨_, rfl, h.resumeQueueEmpty_eq.symm ▸ h.sound.transmit hr⟩
  | .indexWrite c => ⟨_, rfl, h.indexCycle c⟩
  | .dataWrongWidth access => ⟨_, rfl, h.wrongWidth access⟩
  | .registerWrite v => ⟨_, rfl, h.dataWrite fun hs => hs.writeRegister hr s.bus.index v⟩
  | .windowFieldWrite field v => ⟨_, rfl, h.dataWrite fun hs => hs.writeWindowField field v⟩
  | .interruptFlagClear v => ⟨_, rfl, h.dataWrite (effect := State.writeFlags v) fun hs => hs.of_items rfl rfl⟩
  | .interruptEnableWrite v => ⟨_, rfl, h.dataWrite (effect := State.writeEnables v) fun hs => hs.of_items rfl rfl⟩
  | .join => ⟨_, rfl, h.dataWrite fun hs => hs.joinCommand hr⟩
  | .stop => ⟨_, rfl, h.dataWrite State.AtRest.stopCommand⟩
  | .softReset => ⟨_, rfl, h.dataWrite State.AtRest.softResetCommand⟩
  | .sweep => ⟨_, rfl, h.dataWrite (effect := State.sweepCommand) fun hs => hs.startSweep.setStatus _⟩
  | .sync => ⟨_, rfl, h.dataWrite fun hs => hs.syncCommand hr⟩
  | .popRecord => ⟨_, rfl, h.dataWrite State.AtRest.popCommand⟩
  | .invalidateLine => ⟨_, rfl, h.dataWrite (effect := State.invalidateCommand) fun hs => (hs.dropLine _).setStatus _⟩
  | .enableWindow => ⟨_, rfl, h.dataWrite State.AtRest.enableCommand⟩
  | .disableWindow => ⟨_, rfl, h.dataWrite State.AtRest.disableCommand⟩
  | .clearCounters => ⟨_, rfl, h.dataWrite (effect := State.clearCountersCommand) fun hs => hs.of_items rfl rfl⟩
  | .clearOverflow => ⟨_, rfl, h.dataWrite (effect := State.clearOverflowCommand) fun hs => hs.of_items rfl rfl⟩
  | .unknownCommand v => ⟨_, rfl, h.dataWrite fun hs => hs.commandRegister hr v⟩
  | .welcome first => ⟨_, rfl, h.receive hlength (.welcome first)⟩
  | .lineData tag issue status data => ⟨_, rfl, h.receive hlength (.lineData tag issue status data)⟩
  | .wordData tag issue status data => ⟨_, rfl, h.receive hlength (.wordData tag issue status data)⟩
  | .writeAck seq status total => ⟨_, rfl, h.receive hlength (.writeAck seq status total)⟩
  | .syncAck issue => ⟨_, rfl, h.receive hlength (.syncAck issue)⟩
  | .notice seq line => ⟨_, rfl, h.receive hlength (.notice seq line)⟩
  | .tick next => ⟨_, rfl, h.receive hlength (.tick next)⟩
  | .restart => ⟨_, rfl, h.receive hlength .restart⟩
  | .corruptFrame bytes => ⟨_, rfl, h.receiveBytes hlength bytes⟩
  | .frameWhileDown bytes => ⟨_, rfl, h.receiveBytes hlength bytes⟩
  | .transmissionEnd => ⟨_, rfl, h.endTransmission hr⟩
  | .responseTimerExpiry tag => ⟨_, rfl, h.expireResponse hr timers tag⟩
  | .writeTimerExpiry => ⟨_, rfl, h.expireWrite hr⟩
  | .syncTimerExpiry => ⟨_, rfl, h.expireSync hr⟩
  | .joinTimerExpiry => ⟨_, rfl, h.expireJoin hr⟩
  | .quietTimerExpiry => ⟨_, rfl, h.expireQuiet hr⟩
  | .sweepStep => ⟨_, rfl, h.stepSweep⟩
  | .dataRead => ⟨_, rfl, h.dataRead⟩

end State.Settled

/-! ## Every command while the reset input is asserted (R91, R104, R127) -/

theorem State.transmit_of_reset (hr : s.pins.resetAsserted = true) : s.transmit = s := if_pos hr

/-- Under the reset input nothing happens but its own commands and the sweep's step: the bus and the line are held, the link is
DOWN, so no timer runs and nothing waits, and the transmitter is FREE. -/
theorem State.Laws.exec_of_reset (h : s.Laws) (hr : s.pins.resetAsserted = true) {i : Instr}
    (hinput : ∀ straps, i ≠ .resetInput straps) (hdeassertion : i ≠ .resetDeassertion) (hstep : i ≠ .sweepStep) :
    exec i s = .next s := by
  have hheld : s.busHeld = true := by rw [State.busHeld, hr, Bool.or_true]
  obtain ⟨hdown, hfree⟩ := h.reset hr
  have hup : s.link.state ≠ .up := by simp [hdown]
  have governed : s.Governed := ⟨h.link, h.timers⟩
  cases i with
  | resetInput straps => exact absurd rfl (hinput straps)
  | resetDeassertion => exact absurd rfl hdeassertion
  | sweepStep => exact absurd rfl hstep
  | readResumesFreeEntry =>
    exact congrArg Host.Outcome.next (by rw [h.settled.resumeFreeEntry_eq, State.transmit_of_reset hr])
  | writeResumesQueueSpace =>
    exact congrArg Host.Outcome.next (by rw [h.settled.resumeQueueSpace_eq, State.transmit_of_reset hr])
  | orderedReadDispatch =>
    exact congrArg Host.Outcome.next (by rw [h.settled.resumeQueueEmpty_eq, State.transmit_of_reset hr])
  | welcome | lineData | wordData | writeAck | syncAck | notice | tick | restart =>
    exact congrArg Host.Outcome.next (State.receive_of_reset _ hr)
  | corruptFrame bytes | frameWhileDown bytes => exact congrArg Host.Outcome.next (State.receiveBytes_of_reset bytes hr)
  | transmissionEnd => exact congrArg Host.Outcome.next (State.endTransmission_free hfree)
  | responseTimerExpiry tag =>
    refine congrArg Host.Outcome.next (State.expireResponse_stopped (Bool.eq_false_iff.mpr fun hrun => ?_))
    obtain ⟨w, hw, -⟩ := (h.timers.1 tag).mp hrun
    exact hup (governed.up_of_work hw)
  | writeTimerExpiry =>
    exact congrArg Host.Outcome.next
      (State.expireWrite_stopped (Bool.eq_false_iff.mpr fun hrun => hup (governed.up_of_writeTimer hrun)))
  | syncTimerExpiry =>
    exact congrArg Host.Outcome.next
      (State.expireSync_stopped (Bool.eq_false_iff.mpr fun hrun => hup (governed.up_of_syncTimer hrun)))
  | joinTimerExpiry =>
    refine congrArg Host.Outcome.next (State.expireJoin_stopped (Bool.eq_false_iff.mpr fun hrun => ?_))
    obtain ⟨-, -, -, hjoin, -⟩ := h.timers
    rw [hjoin, hdown] at hrun
    cases hrun.1
  | quietTimerExpiry =>
    refine congrArg Host.Outcome.next (State.expireQuiet_stopped (Bool.eq_false_iff.mpr fun hrun => ?_))
    obtain ⟨-, -, -, -, hquiet, -⟩ := h.timers
    exact hup (hquiet.mp hrun)
  | _ => exact exec_of_busHeld rfl hheld

/-! ## Every law (R3 to R155) -/

/-- Every command settles its next state, whatever the reset input. -/
theorem State.Laws.exec_settled (h : s.Laws) (i : Instr) : ∃ t, exec i s = .next t ∧ t.Settled := by
  cases hr : s.pins.resetAsserted with
  | false => exact h.settled.exec hr h.queue.1 h.timers i
  | true =>
    by_cases hinput : ∃ straps, i = .resetInput straps
    · obtain ⟨straps, rfl⟩ := hinput
      exact ⟨_, rfl, (s.assertReset_laws straps).settled⟩
    by_cases hdeassertion : i = .resetDeassertion
    · subst hdeassertion
      exact ⟨_, rfl, h.settled.deassertReset⟩
    by_cases hstep : i = .sweepStep
    · subst hstep
      exact ⟨_, rfl, h.settled.stepSweep⟩
    exact ⟨s, h.exec_of_reset hr (not_exists.mp hinput) hdeassertion hstep, h.settled⟩

/-- Under the reset input the link stays DOWN and the transmitter FREE (R91, R104). -/
theorem State.Laws.exec_resetLaw (h : s.Laws) (i : Instr) : ∃ t, exec i s = .next t ∧ t.ResetLaw := by
  by_cases hinput : ∃ straps, i = .resetInput straps
  · obtain ⟨straps, rfl⟩ := hinput
    exact ⟨_, rfl, (s.assertReset_laws straps).reset⟩
  by_cases hdeassertion : i = .resetDeassertion
  · subst hdeassertion
    refine ⟨_, rfl, fun hr => ?_⟩
    unfold State.deassertReset at hr
    split at hr
    · cases hr
    · contradiction
  by_cases hstep : i = .sweepStep
  · subst hstep
    have hframe : s.stepSweep.link = s.link ∧ s.stepSweep.pins = s.pins := by
      unfold State.stepSweep
      dsimp only
      split
      · split <;> exact ⟨rfl, rfl⟩
      · exact ⟨rfl, rfl⟩
    refine ⟨_, rfl, ?_⟩
    rw [State.ResetLaw, hframe.1, hframe.2]
    exact h.reset
  cases hr : s.pins.resetAsserted with
  | true => exact ⟨s, h.exec_of_reset hr (not_exists.mp hinput) hdeassertion hstep, h.reset⟩
  | false =>
    obtain ⟨t, ht, hkept⟩ := s.keepsOutside_exec (not_exists.mp hinput) hdeassertion
    refine ⟨t, ht, fun hasserted => ?_⟩
    rw [hkept.pins, hr] at hasserted
    cases hasserted

/-- Every command keeps every law, because the others hold. -/
theorem State.Laws.exec (h : s.Laws) (i : Instr) : ∃ t, exec i s = .next t ∧ t.Laws := by
  obtain ⟨t, ht, settled⟩ := h.exec_settled i
  have same {P : State → Prop} (hP : ∃ u, Machine.exec i s = .next u ∧ P u) : P t := by
    obtain ⟨u, hu, hPu⟩ := hP
    cases ht.symm.trans hu
    exact hPu
  have keeps := same (State.keepsQueue_exec h.link i)
  have governed := same (State.Governed.exec ⟨h.link, h.timers⟩ h.fill i)
  exact ⟨t, ht, {
    order := same (State.OrderLaw.exec h.order i)
    unique := settled.sound.tracked.unique
    fill := settled.sound.tracked.fill
    sweep := settled.sound.tracked.sweep
    queue := keeps.shape h.queue
    entries := keeps.entries h.entries
    windows := settled.sound.windows
    link := governed.link
    records := same (State.RecordLaw.exec h.records i)
    send := settled.sound.tracked.send
    timers := governed.timers
    bus := settled.sound.attended.bus
    waiters := settled.sound.attended.waiters
    transmitter := settled.transmitter
    reset := same (h.exec_resetLaw i) }⟩

/-- Settles O13: an idle step changes nothing, and every command keeps every law. -/
theorem everyLawKept : Obligations.EveryLawKept := by
  intro s t laws hstep
  unfold step at hstep
  split at hstep
  · cases hstep
    exact laws
  · rename_i c rest _
    obtain ⟨order, unique, fill, sweep, queue, entries, windows, link, records, send, timers, bus, waiters, transmitter,
      reset⟩ := laws
    have hrest : { s with pending := rest }.Laws := ⟨order, unique, fill, sweep, queue, entries, windows, link, records, send,
      timers, bus, waiters, transmitter, reset⟩
    obtain ⟨u, hu, kept⟩ := hrest.exec c
    cases hu.symm.trans hstep
    exact kept

/-- Settles O11: the three laws of the directory are kept among all the laws. -/
theorem directoryLawsKept : Obligations.DirectoryLawsKept := by
  intro s t laws hstep
  have kept := everyLawKept s t laws hstep
  exact ⟨kept.unique, kept.fill, kept.sweep⟩

end Sys2Proof.Machine
end
